-- ==== Sys2Proof/Config.lean ====
section
/-! DEFINITION. What an implementation fixes and what the environment is free to choose
(00_scope.md R8 to R13; 43_external_interfaces.md R189). -/

namespace Sys2Proof.Config

/-- PWM_PERIOD_TICKS: the PWM period in PWM timer counts, the argument of TMR_ARM (00_scope.md R10). -/
def pwmPeriodTicks : BitVec 8 := 210#8

/-- The reference value of DEVICE_CODE (00_scope.md R13).
DESIGN CHOICE, unsafe (log 3): `State.dc` is the model's argument, and only `State.reset` holds this value. -/
def referenceDeviceCode : BitVec 32 := 0x02FD48B7#32

/-- P_NOMINAL in nanoseconds: 26.375 us (00_scope.md R11). No rule of the block depends on it. -/
def nominalPeriodNs : Nat := 26375

/-- A free value: CLK_PER_TICK less 1, which the spec leaves OPEN (00_scope.md R13). Safe (log 4). -/
opaque clkPerTickLessOne : Nat

/-- CLK_PER_TICK, an integer of 1 or more (00_scope.md R13; 40_tick_source.md R100). -/
def clkPerTick : Nat := clkPerTickLessOne + 1

/-- A free value: the level of `btn_n` in cycle n, any value in any cycle (43_external_interfaces.md R189).
Safe (log 7). -/
opaque freeButton : Nat → Bool

/-- A free value: the level of `rst` in cycle n, which the environment may assert at any time
(43_external_interfaces.md R189). Safe (log 7). -/
opaque freeReset : Nat → Bool

end Sys2Proof.Config
end

