-- ==== Sys2Proof/Word.lean ====
section
/-! DEFINITION. The words of the block's formats that an instruction can be read from (30_encoding.md R70):
the STATE code, the INPUT vector and the EFFECT record. Bit 0 is the least significant bit (00_scope.md R15). -/

namespace Sys2Proof

/-- One word of a format of 30_encoding.md R70. -/
inductive Word where
  /-- A STATE code, the value of `st` (R71). -/
  | state (code : BitVec 4)
  /-- An INPUT vector `{tick, btn_n}` of one cycle (R74). -/
  | input (vec : BitVec 2)
  /-- An EFFECT record `{op[2:0], arg[7:0]}` (R77). -/
  | effect (rec : BitVec 11)
deriving DecidableEq, Repr

/-- The formats of the opcode table. A MICRO_OP has no word of its own. -/
inductive Format where
  | state
  | input
  | effect
  | microOp
deriving DecidableEq, Repr

/-- The format a word belongs to. -/
def Word.format : Word → Format
  | .state _ => .state
  | .input _ => .input
  | .effect _ => .effect

end Sys2Proof
end

