-- ==== Sys2Proof/Syntax.lean ====
section
/-! DEFINITION. The operations of the block: one constructor per row of spec/opcode_table.json, and the
effect records a cycle emits (30_encoding.md R77). -/

namespace Sys2Proof

/-- The operations of spec/opcode_table.json, in the table's order. -/
inductive Instr where
  -- STATE: one clock cycle of the state's rule (30_encoding.md R71)
  /-- IDLE `0000` (42_protocol_encoder.md R144). -/
  | idle
  /-- LDR_ON `0001` (R145). -/
  | ldrOn
  /-- LDR_OFF `0010` (R146). -/
  | ldrOff
  /-- BIT_ON `0011` (R147). -/
  | bitOn
  /-- BIT0_OFF `0100` (R148). -/
  | bit0Off
  /-- STOP_ON `0101` (R150). -/
  | stopOn
  /-- BIT1_OFF `0110` (R149). -/
  | bit1Off
  /-- RPT_ON `0111` (R152). -/
  | rptOn
  /-- STOP_OFF `1000` (R151). -/
  | stopOff
  /-- RPT_OFF `1010` (R153). -/
  | rptOff
  /-- RESERVED_1001 (30_encoding.md R73; R154). -/
  | reserved1001
  /-- RESERVED_1011 (R73; R154). -/
  | reserved1011
  /-- RESERVED_11XX: the codes 1100 to 1111, `low` their two free bits (R73; R154). -/
  | reserved11xx (low : BitVec 2)
  -- INPUT (30_encoding.md R74)
  /-- TICK `1b`: the onTick event, with the button pin's level in the same vector (40_tick_source.md R101). -/
  | tick (btnN : Bool)
  -- EFFECT (30_encoding.md R77)
  /-- NONE: no operation (R77). -/
  | effNone
  /-- TMR_RESET: PeriodicTimer.reset() (43_external_interfaces.md R183). -/
  | tmrReset
  /-- TMR_ARM: PeriodicTimer.arm(periodTicks) (R181). -/
  | tmrArm (periodTicks : BitVec 8)
  /-- TMR_DISARM: PeriodicTimer.disarm() (R182). -/
  | tmrDisarm
  /-- PWM_DUTY: PwmChannel.setDutyNumerator(n) (R185). -/
  | pwmDuty (n : BitVec 8)
  /-- BTN_READ: DigitalInput.read(), with its result (R186). -/
  | btnRead (asserted : Bool)
  /-- RESERVED_11X: the reserved op codes 110 and 111, `low` the nine free bits (30_encoding.md R77). -/
  | reserved11x (low : BitVec 9)
  -- MICRO_OP
  /-- SET_GATE_ON (41_subcarrier_output.md R121). -/
  | setGateOn
  /-- SET_GATE_OFF (41_subcarrier_output.md R122). -/
  | setGateOff
  /-- ACCUMULATE_AND_RESET (40_tick_source.md R104). -/
  | accumulateAndReset
  /-- CLOSE_FRAME (40_tick_source.md R106). -/
  | closeFrame
  /-- RESET_ONLY (40_tick_source.md R108). -/
  | resetOnly
  /-- STAY (42_protocol_encoder.md R142). -/
  | stay
  /-- ENTER_BIT (42_protocol_encoder.md R143). -/
  | enterBit
  /-- TERMINATE (42_protocol_encoder.md R156). -/
  | terminate
deriving DecidableEq, Repr

/-- An effect record (30_encoding.md R77). NONE is never emitted as a record, so it is none of these. -/
inductive Effect where
  | tmrReset
  | tmrArm (periodTicks : BitVec 8)
  | tmrDisarm
  | pwmDuty (n : BitVec 8)
  | btnRead (asserted : Bool)
deriving DecidableEq, Repr

/-- The format of an operation's row in the opcode table. -/
def Instr.format : Instr → Format
  | .idle => .state
  | .ldrOn => .state
  | .ldrOff => .state
  | .bitOn => .state
  | .bit0Off => .state
  | .stopOn => .state
  | .bit1Off => .state
  | .rptOn => .state
  | .stopOff => .state
  | .rptOff => .state
  | .reserved1001 => .state
  | .reserved1011 => .state
  | .reserved11xx _ => .state
  | .tick _ => .input
  | .effNone => .effect
  | .tmrReset => .effect
  | .tmrArm _ => .effect
  | .tmrDisarm => .effect
  | .pwmDuty _ => .effect
  | .btnRead _ => .effect
  | .reserved11x _ => .effect
  | .setGateOn => .microOp
  | .setGateOff => .microOp
  | .accumulateAndReset => .microOp
  | .closeFrame => .microOp
  | .resetOnly => .microOp
  | .stay => .microOp
  | .enterBit => .microOp
  | .terminate => .microOp

end Sys2Proof
end

