-- ==== Sys2Proof/WellFormed.lean ====
section
/-! DEFINITION. Which operations are well formed: their operands are values that the encoding admits. -/

namespace Sys2Proof

/-- The operands the encodings of spec/opcode_table.json admit. Only TMR_ARM's is narrower than its type:
its argument is PWM_PERIOD_TICKS = 210 (30_encoding.md R77; 43_external_interfaces.md R181). PWM_DUTY's row
leaves all eight bits of n free (log 12). -/
def Instr.wf : Instr → Bool
  | .tmrArm p => p == Config.pwmPeriodTicks
  | .idle => true
  | .ldrOn => true
  | .ldrOff => true
  | .bitOn => true
  | .bit0Off => true
  | .stopOn => true
  | .bit1Off => true
  | .rptOn => true
  | .stopOff => true
  | .rptOff => true
  | .reserved1001 => true
  | .reserved1011 => true
  | .reserved11xx _ => true
  | .tick _ => true
  | .effNone => true
  | .tmrReset => true
  | .tmrDisarm => true
  | .pwmDuty _ => true
  | .btnRead _ => true
  | .reserved11x _ => true
  | .setGateOn => true
  | .setGateOff => true
  | .accumulateAndReset => true
  | .closeFrame => true
  | .resetOnly => true
  | .stay => true
  | .enterBit => true
  | .terminate => true

end Sys2Proof
end

