-- ==== Sys2Proof/Decode.lean ====
section
/-! DEFINITION. Reading an operation from a word of its format, the encoder written from the same tables
(30_encoding.md R71, R73, R74, R77), and the state codes by name. -/

namespace Sys2Proof

/-! ### The state codes (30_encoding.md R71) -/

def codeIdle : BitVec 4 := 0b0000#4
def codeLdrOn : BitVec 4 := 0b0001#4
def codeLdrOff : BitVec 4 := 0b0010#4
def codeBitOn : BitVec 4 := 0b0011#4
def codeBit0Off : BitVec 4 := 0b0100#4
def codeStopOn : BitVec 4 := 0b0101#4
def codeBit1Off : BitVec 4 := 0b0110#4
def codeRptOn : BitVec 4 := 0b0111#4
def codeStopOff : BitVec 4 := 0b1000#4
def codeRptOff : BitVec 4 := 0b1010#4

/-! ### Decoding -/

/-- Why a word is no row of the opcode table. -/
inductive DecodeError where
  /-- An INPUT vector with `tick` = 0 is no TICK event (30_encoding.md R74). Safe. -/
  | noTick
  /-- An EFFECT record whose op code is not reserved but whose argument is not the one R77's table gives that
  op code (30_encoding.md R77). Safe (log 11). -/
  | badArgument
deriving DecidableEq, Repr

/-- The state rule a STATE code dispatches to: total, every one of the 16 codes names a row
(42_protocol_encoder.md R140 item 3; 30_encoding.md R71, R73). -/
def decodeState (code : BitVec 4) : Instr :=
  if code = codeIdle then .idle
  else if code = codeLdrOn then .ldrOn
  else if code = codeLdrOff then .ldrOff
  else if code = codeBitOn then .bitOn
  else if code = codeBit0Off then .bit0Off
  else if code = codeStopOn then .stopOn
  else if code = codeBit1Off then .bit1Off
  else if code = codeRptOn then .rptOn
  else if code = codeStopOff then .stopOff
  else if code = codeRptOff then .rptOff
  else if code = 0b1001#4 then .reserved1001
  else if code = 0b1011#4 then .reserved1011
  else .reserved11xx (code.extractLsb' 0 2)

/-- The event of an INPUT vector `{tick, btn_n}` (30_encoding.md R74). -/
def decodeInput (vec : BitVec 2) : Except DecodeError Instr :=
  if vec.getLsbD 1 then .ok (.tick (vec.getLsbD 0)) else .error .noTick

/-- The `op[2:0]` field of an EFFECT record, bits [10:8] (30_encoding.md R77). -/
def effectOp (rec : BitVec 11) : BitVec 3 := rec.extractLsb' 8 3

/-- The `arg[7:0]` field of an EFFECT record (30_encoding.md R77). -/
def effectArg (rec : BitVec 11) : BitVec 8 := rec.extractLsb' 0 8

/-- The operation of an EFFECT record `{op, arg}` (30_encoding.md R77). -/
def decodeEffect (rec : BitVec 11) : Except DecodeError Instr :=
  let op := effectOp rec
  let arg := effectArg rec
  if op = 0b000#3 then if arg = 0#8 then .ok .effNone else .error .badArgument
  else if op = 0b001#3 then if arg = 0#8 then .ok .tmrReset else .error .badArgument
  else if op = 0b010#3 then
    if arg = Config.pwmPeriodTicks then .ok (.tmrArm arg) else .error .badArgument
  else if op = 0b011#3 then if arg = 0#8 then .ok .tmrDisarm else .error .badArgument
  else if op = 0b100#3 then .ok (.pwmDuty arg)
  else if op = 0b101#3 then
    if arg = 0#8 then .ok (.btnRead false)
    else if arg = 1#8 then .ok (.btnRead true)
    else .error .badArgument
  else .ok (.reserved11x (rec.extractLsb' 0 9))

/-- The operation a word stands for. -/
def decode : Word → Except DecodeError Instr
  | .state code => .ok (decodeState code)
  | .input vec => decodeInput vec
  | .effect rec => decodeEffect rec

/-! ### Encoding -/

/-- An EFFECT record from its fields (30_encoding.md R77). -/
def packEffect (op : BitVec 3) (arg : BitVec 8) : BitVec 11 := op ++ arg

/-- A flag as an 8-bit argument: 1 for asserted, 0 for deasserted (30_encoding.md R77). -/
def flagArg (b : Bool) : BitVec 8 := if b then 1#8 else 0#8

/-- The packed form of an effect record (30_encoding.md R77). -/
def encodeEffect : Effect → BitVec 11
  | .tmrReset => packEffect 0b001#3 0#8
  | .tmrArm p => packEffect 0b010#3 p
  | .tmrDisarm => packEffect 0b011#3 0#8
  | .pwmDuty n => packEffect 0b100#3 n
  | .btnRead r => packEffect 0b101#3 (flagArg r)

/-- The word of an operation. SET_GATE_ON and SET_GATE_OFF are encoded as the PWM_DUTY record they emit
(41_subcarrier_output.md R121, R122); the other micro-operations have no encoding (40_tick_source.md R104, R106). -/
def encode : Instr → Option Word
  | .idle => some (.state codeIdle)
  | .ldrOn => some (.state codeLdrOn)
  | .ldrOff => some (.state codeLdrOff)
  | .bitOn => some (.state codeBitOn)
  | .bit0Off => some (.state codeBit0Off)
  | .stopOn => some (.state codeStopOn)
  | .bit1Off => some (.state codeBit1Off)
  | .rptOn => some (.state codeRptOn)
  | .stopOff => some (.state codeStopOff)
  | .rptOff => some (.state codeRptOff)
  | .reserved1001 => some (.state 0b1001#4)
  | .reserved1011 => some (.state 0b1011#4)
  | .reserved11xx low => some (.state (0b11#2 ++ low))
  | .tick b => some (.input (1#1 ++ BitVec.ofBool b))
  | .effNone => some (.effect (packEffect 0b000#3 0#8))
  | .tmrReset => some (.effect (encodeEffect .tmrReset))
  | .tmrArm p => some (.effect (encodeEffect (.tmrArm p)))
  | .tmrDisarm => some (.effect (encodeEffect .tmrDisarm))
  | .pwmDuty n => some (.effect (encodeEffect (.pwmDuty n)))
  | .btnRead r => some (.effect (encodeEffect (.btnRead r)))
  | .reserved11x low => some (.effect (0b11#2 ++ low))
  | .setGateOn => some (.effect (packEffect 0b100#3 70#8))
  | .setGateOff => some (.effect (packEffect 0b100#3 0#8))
  | .accumulateAndReset => none
  | .closeFrame => none
  | .resetOnly => none
  | .stay => none
  | .enterBit => none
  | .terminate => none

/-! ### The opcode table's numbering -/

/-- The word that `nbits` bits of value `w` hold, bit 0 the least significant. A STATE code has 4 bits and an
EFFECT record 11; in whole bytes 8 and 16. An INPUT vector has 2 bits: in whole bytes it would be 8, the STATE
code's size, and a STATE code is what is read there (log 17). -/
def tableWord (nbits w : Nat) : Option Word :=
  if nbits = 4 ∨ nbits = 8 then if w < 16 then some (.state (BitVec.ofNat 4 w)) else none
  else if nbits = 11 ∨ nbits = 16 then if w < 2048 then some (.effect (BitVec.ofNat 11 w)) else none
  else if nbits = 2 then if w < 4 then some (.input (BitVec.ofNat 2 w)) else none
  else none

/-- The operation read from a word numbered as spec/opcode_table.json numbers it; none where no row matches. -/
def decodeTableWord (nbits w : Nat) : Option Instr :=
  match tableWord nbits w with
  | some word =>
    match decode word with
    | .ok i => some i
    | .error _ => none
  | none => none

end Sys2Proof
end

