-- ==== Sys2Proof/Machine/State.lean ====
section
/-! DEFINITION. The machine's state as plain data: the block's registers, its ports, and the environment the spec
describes beside it (10_state.md R20, R33; 30_encoding.md R74, R76). -/

namespace Sys2Proof.Machine

/-- The five fault kinds of 60_exceptions.md R201, each with the value it records. They are entries of the fault
record `State.faults`: raising one is a step to a next state in which the record holds it and the block is stuck
(R202), so no step answers `Host.Outcome.fault` (log 1). -/
inductive Fault where
  /-- Code 1: `cnt'` passed 0xFFFF. Raised by the tick increment of any cycle (40_tick_source.md R101, R103).
  Safe: real hardware drifts silently, the model stops. -/
  | counterOverflow (st : BitVec 4)
  /-- Code 2: `acc + cnt'` passed 0xFFFF. Raised by ACCUMULATE-AND-RESET (40_tick_source.md R104). Safe. -/
  | accOverflow (st : BitVec 4) (acc : BitVec 16) (cnt' : BitVec 17)
  /-- Code 3: the frame total passed 4095. Raised by CLOSE-FRAME (40_tick_source.md R106). Safe. -/
  | budgetUnderflow (total : Nat)
  /-- Code 4: `cur` outside 0 to 31. Raised by ENTER-BIT (42_protocol_encoder.md R143). Safe. -/
  | cursorRange (cur : BitVec 6)
  /-- Code 5: `st` holds a reserved code. Raised by the reserved state rule (42_protocol_encoder.md R154). Safe. -/
  | illegalState (st : BitVec 4)
deriving DecidableEq, Repr

/-- Why a step is refused. -/
inductive Refusal where
  /-- An operation without a meaning in the dispatch: none is left. Safe. -/
  | notModelled (mnemonic : String)
  /-- RESERVED_11X: a reserved effect op code given to replay, which "a model ... refuses" (30_encoding.md R77).
  Raised by the RESERVED_11X meaning. Safe. -/
  | reservedEffect (low : BitVec 9)
  /-- An effect record given to replay that no row of the opcode table matches (log 11). Raised by the step's fetch
  of a record. Safe. -/
  | notAnEffectRecord (rec : BitVec 11)
deriving DecidableEq, Repr

/-- One `@t press` or `@t release` line of a stimulus script (30_encoding.md R84). -/
structure ButtonEvent where
  /-- The tick count since the most recent Idle exit at which the line takes effect. -/
  at_ : Nat
  /-- `press` (true) or `release` (false). -/
  pressed : Bool
deriving DecidableEq, Repr

/-- Where the button's later levels come from (43_external_interfaces.md R189). -/
inductive ButtonSource where
  /-- Any value in any cycle: free values. -/
  | free
  /-- The pending lines of a stimulus script, in the script's order (30_encoding.md R84). -/
  | script (events : List ButtonEvent)
deriving DecidableEq, Repr

/-- The state: block registers, output ports, input ports, environment, in this order (INVENTORY.md, State). -/
structure State where
  /-- The state register (10_state.md R21). -/
  st : BitVec 4
  /-- PeriodCounter (R22). -/
  cnt : BitVec 16
  /-- PhaseAccumulator (R23). -/
  acc : BitVec 16
  /-- FrameIdleBudget (R24). -/
  budget : BitVec 16
  /-- BitCursor, two's complement (R25). -/
  cur : BitVec 6
  /-- The value of the code bit being sent (R26). -/
  curbit : Bool
  /-- The enabling flag of the Tick Source (R28). -/
  armed : Bool
  /-- DeviceCode: constant while the block runs (R29). -/
  dc : BitVec 32
  /-- The fault record: a set of fault kinds, held as a list with no kind twice (R31; log 24). -/
  faults : List Fault
  /-- Output `duty[7:0]` (30_encoding.md R76). -/
  duty : BitVec 8
  /-- Output `tmr_en` (R76). -/
  tmrEn : Bool
  /-- Output `tmr_clr`, a one-cycle strobe (R76). -/
  tmrClr : Bool
  /-- The effect records of the cycle just run, in order (30_encoding.md R77; log 18). -/
  effects : List Effect
  /-- Input `rst` of the next cycle (70_reset_and_hazards.md R230). -/
  rst : Bool
  /-- Input `tick` of the next cycle (30_encoding.md R74). -/
  tick : Bool
  /-- Input `btn_n` of the next cycle, active low (R74, R75). -/
  btnN : Bool
  /-- CLK_PER_TICK, constant while the block runs (00_scope.md R13; log 4). -/
  clkPerTick : Nat
  /-- The timer's cycles left to its next tick (40_tick_source.md R100; log 5). -/
  tmrLeft : Nat
  /-- Ticks counted since the most recent Idle exit (30_encoding.md R84; log 9). -/
  tickNo : Nat
  /-- Where the button's later levels come from (log 7, 8). -/
  button : ButtonSource
  /-- The model's own counter, which indexes the free values (log 7). -/
  cycle : Nat
  /-- Effect records given to the model to replay, oldest first (30_encoding.md R77; log 10). -/
  replay : List (BitVec 11)
deriving DecidableEq, Repr

/-- The machine right after reset (10_state.md R35; 70_reset_and_hazards.md R230), with `rst` released, the button
released and the button's later levels free (log 3, 4, 6, 7). -/
def State.reset : State where
  st := codeIdle
  cnt := 0#16
  acc := 0#16
  budget := 0#16
  cur := 31#6
  curbit := false
  armed := false
  dc := Config.referenceDeviceCode
  faults := []
  duty := 0#8
  tmrEn := false
  tmrClr := false
  effects := []
  rst := false
  tick := false
  btnN := true
  clkPerTick := Config.clkPerTick
  tmrLeft := 0
  tickNo := 0
  button := .free
  cycle := 0
  replay := []

end Sys2Proof.Machine
end

