-- ==== Sys2Proof/Machine/Operands.lean ====
section
/-! DEFINITION. The operands the rules draw on: constants, thresholds, the DeviceCode bit, the frame total
(00_scope.md R8 to R12; 30_encoding.md R79 to R81). -/

namespace Sys2Proof.Machine

/-- FRAME_PERIODS (00_scope.md R9). -/
def framePeriods : Nat := 4095

/-- DUTY_ON, the numerator of the duty ratio 1/3 (00_scope.md R10). -/
def dutyOn : BitVec 8 := 70#8

/-- DUTY_OFF (00_scope.md R10). -/
def dutyOff : BitVec 8 := 0#8

/-- BITCURSOR_START (00_scope.md R12). -/
def cursorStart : BitVec 6 := 31#6

/-- The `cur` value that says all bits are sent: -1 (10_state.md R25). -/
def cursorDone : BitVec 6 := 0b111111#6

/-- `threshold(st)` (30_encoding.md R80), with `budget` the register; Idle and the reserved codes have none. -/
def threshold (code : BitVec 4) (budget : BitVec 16) : Option (BitVec 16) :=
  if code = codeLdrOn then some 340#16
  else if code = codeLdrOff then some 170#16
  else if code = codeBitOn then some 21#16
  else if code = codeBit0Off then some 20#16
  else if code = codeBit1Off then some 63#16
  else if code = codeStopOn then some 21#16
  else if code = codeStopOff then some budget
  else if code = codeRptOn then some 340#16
  else if code = codeRptOff then some 85#16
  else none

/-- `DC[i]`, defined for i in 0 to 31 only (20_memory.md R51): the code shifted right by i, lowest bit
(30_encoding.md R79). -/
def dcBit (dc : BitVec 32) (i : Int) : Option Bool :=
  if 0 ≤ i ∧ i ≤ 31 then some ((dc >>> i.toNat).getLsbD 0) else none

/-- `acc + cnt'`, computed exactly (00_scope.md R16; 40_tick_source.md R104, R106). -/
def frameTotal (s : State) (c : BitVec 17) : Nat := s.acc.toNat + c.toNat

end Sys2Proof.Machine
end

