-- ==== Sys2Proof/Machine/Flags.lean ====
section
/-! DEFINITION. The block's wires: the gate, the button's logical value, `cnt'`, the exit comparison and the
values the outputs take (30_encoding.md R72, R75, R76; 40_tick_source.md R101, R109). The block has no condition
codes (10_state.md R32). -/

namespace Sys2Proof.Machine

/-- `gate = st[0]` (30_encoding.md R72; 41_subcarrier_output.md R120). -/
def gateOf (code : BitVec 4) : Bool := code.getLsbD 0

/-- The gate wire of a state. -/
def gate (s : State) : Bool := gateOf s.st

/-- The `duty` output for a gate level (30_encoding.md R76). -/
def dutyFor (gate : Bool) : BitVec 8 := if gate then dutyOn else dutyOff

/-- `btn = NOT btn_n` (30_encoding.md R75). -/
def btn (s : State) : Bool := !s.btnN

/-- PeriodCounter after the cycle's tick, 17 bits: one more in an armed tick cycle, else unchanged
(40_tick_source.md R101, R102). -/
def countTick (armed tick : Bool) (cnt : BitVec 16) : BitVec 17 :=
  if armed && tick then cnt.setWidth 17 + 1#17 else cnt.setWidth 17

/-- `cnt'` of the coming cycle (40_tick_source.md R101). -/
def cntNext (s : State) : BitVec 17 := countTick s.armed s.tick s.cnt

/-- `cnt' > 0xFFFF`, the CounterOverflow condition (40_tick_source.md R103). -/
def overflows (c : BitVec 17) : Bool := decide (0xFFFF < c.toNat)

/-- `cnt' > threshold`: strict, unsigned, 17 bits against the zero-extended threshold (40_tick_source.md R109). -/
def exceeds (c : BitVec 17) (th : BitVec 16) : Bool := decide (th.toNat < c.toNat)

/-- The duty ratio n / PWM_PERIOD_TICKS (41_subcarrier_output.md R126). -/
def dutyRatio (n : BitVec 8) : Rat := mkRat n.toNat Config.pwmPeriodTicks.toNat

/-- The duty ratio of the emitted carrier: with GATE_LAT = 0 the one of the `duty` output
(41_subcarrier_output.md R127; log 20). -/
def carrierRatio (s : State) : Rat := dutyRatio s.duty

end Sys2Proof.Machine
end

