-- ==== Sys2Proof/Machine/Ops.lean ====
section
/-! DEFINITION. The shared operations: raising a fault, emitting an effect, the parts of a clock cycle, the
micro-operations, and what reset and a fault leave (40_tick_source.md; 42_protocol_encoder.md; 60_exceptions.md). -/

namespace Sys2Proof.Machine

open Host (Outcome)

/-! ### Faults -/

/-- The fault's code (60_exceptions.md R201). -/
def faultCode : Fault → Nat
  | .counterOverflow _ => 1
  | .accOverflow _ _ _ => 2
  | .budgetUnderflow _ => 3
  | .cursorRange _ => 4
  | .illegalState _ => 5

/-- Adding a kind to the fault record: once added it stays, and no kind is added twice (10_state.md R31). -/
def recordFault (faults : List Fault) (f : Fault) : List Fault :=
  if faults.any (fun g => faultCode g == faultCode f) then faults else faults ++ [f]

/-- `raise Fault(kind)`: the one operation that takes a fault. It writes the fault record and nothing else
(00_scope.md R16; 60_exceptions.md R202). Nothing returns from it but `rst` (R209, R230). -/
def raiseFault (f : Fault) (s : State) : State := { s with faults := recordFault s.faults f }

/-- A block whose fault record is not empty is stuck (60_exceptions.md R202). -/
def faulted (s : State) : Bool := !s.faults.isEmpty

/-- The outcome of a part of a cycle: its next state, or `s` with the fault it raised recorded; a raise discards
every write of its cycle (60_exceptions.md R202; log 2). -/
def orRaise (s : State) (r : Except Fault State) : Outcome State Fault Refusal :=
  match r with
  | .ok t => .next t
  | .error f => .next (raiseFault f s)

/-! ### Effects and ports -/

/-- `emit Op(args)`: the record joins the cycle's list, and the operation takes its port form
(30_encoding.md R76, R77; 43_external_interfaces.md R181 to R186). A restarted timer counts a full period
(R183; log 5). -/
def emit (e : Effect) (s : State) : State :=
  match e with
  | .tmrReset => { s with effects := s.effects ++ [e], tmrClr := true, tmrLeft := s.clkPerTick }
  | .tmrArm _ => { s with effects := s.effects ++ [e], tmrEn := true }
  | .tmrDisarm => { s with effects := s.effects ++ [e], tmrEn := false }
  | .pwmDuty n => { s with effects := s.effects ++ [e], duty := n }
  | .btnRead _ => { s with effects := s.effects ++ [e] }

/-- TMR_ARM with its flag `armed <- 1` (43_external_interfaces.md R181; log 13). -/
def armTimer (periodTicks : BitVec 8) (s : State) : State :=
  emit (.tmrArm periodTicks) { s with armed := true }

/-- TMR_DISARM with its flag `armed <- 0` (43_external_interfaces.md R182; log 13). -/
def disarmTimer (s : State) : State := emit .tmrDisarm { s with armed := false }

/-- SET-GATE-ON (41_subcarrier_output.md R121). -/
def gateOn (s : State) : State := emit (.pwmDuty dutyOn) s

/-- SET-GATE-OFF (41_subcarrier_output.md R122). -/
def gateOff (s : State) : State := emit (.pwmDuty dutyOff) s

/-- BTN_READ of the pin in this cycle (43_external_interfaces.md R186). -/
def readButton (s : State) : State := emit (.btnRead (btn s)) s

/-- The outputs take the values of the state the cycle wrote (42_protocol_encoder.md R140 item 5;
30_encoding.md R76). `tmr_clr` is the strobe `emit` raised. -/
def driveOutputs (s : State) : State := { s with duty := dutyFor (gate s), tmrEn := s.armed }

/-! ### Micro-operations (40_tick_source.md R104 to R108; 42_protocol_encoder.md R142, R143, R156) -/

/-- The tick's part of a cycle: `cnt'`, or CounterOverflow (40_tick_source.md R101, R103). -/
def withTick (s : State) (k : BitVec 17 → Except Fault State) : Except Fault State :=
  if overflows (cntNext s) then .error (.counterOverflow s.st) else k (cntNext s)

/-- STAY: `cnt <- cnt'[15:0]` (42_protocol_encoder.md R142). -/
def stayWith (c : BitVec 17) (s : State) : State := { s with cnt := c.setWidth 16 }

/-- ACCUMULATE-AND-RESET (40_tick_source.md R104). -/
def accumulate (c : BitVec 17) (s : State) : Except Fault State :=
  if 0xFFFF < frameTotal s c then .error (.accOverflow s.st s.acc c)
  else .ok { s with acc := BitVec.ofNat 16 (frameTotal s c), cnt := 0#16 }

/-- CLOSE-FRAME (40_tick_source.md R106). -/
def closeWith (c : BitVec 17) (s : State) : Except Fault State :=
  if framePeriods < frameTotal s c then .error (.budgetUnderflow (frameTotal s c))
  else .ok { s with budget := BitVec.ofNat 16 (framePeriods - frameTotal s c), acc := 0#16, cnt := 0#16 }

/-- RESET-ONLY (40_tick_source.md R108). -/
def clearCount (s : State) : State := { s with cnt := 0#16 }

/-- ENTER-BIT (42_protocol_encoder.md R143; 20_memory.md R51). -/
def startBit (s : State) : Except Fault State :=
  match dcBit s.dc s.cur.toInt with
  | none => .error (.cursorRange s.cur)
  | some b => .ok (gateOn { s with curbit := b, cur := s.cur - 1#6, st := codeBitOn })

/-- TERMINATE (42_protocol_encoder.md R156). -/
def endTransmission (s : State) : State :=
  { disarmTimer s with cur := cursorStart, acc := 0#16, cnt := 0#16, st := codeIdle }

/-- The Idle exit's actions after its BTN_READ (42_protocol_encoder.md R144). -/
def startTransmission (s : State) : State :=
  gateOn { armTimer Config.pwmPeriodTicks
      (emit .tmrReset { s with cur := cursorStart, acc := 0#16, cnt := 0#16 }) with st := codeLdrOn }

/-! ### A clock cycle of a state rule -/

/-- A cycle begins with no effect emitted and the `tmr_clr` strobe down (30_encoding.md R76; log 15, 18). -/
def beginCycle (s : State) : State := { s with effects := [], tmrClr := false }

/-- One cycle of a state rule: the tick, the rule on `cnt'`, the outputs; a fault leaves every register and output
as it was, with no effect emitted (42_protocol_encoder.md R140; 60_exceptions.md R202, R207). -/
def blockCycle (rule : BitVec 17 → State → Except Fault State) (s : State) : Outcome State Fault Refusal :=
  orRaise { s with effects := [] } ((withTick s fun c => rule c (beginCycle s)).map driveOutputs)

/-- The exit template of every state but Idle: the exit actions if `cnt'` passed the code's threshold, else STAY
(42_protocol_encoder.md R141). -/
def exitOrStay (code : BitVec 4) (onExit : BitVec 17 → State → Except Fault State) (c : BitVec 17) (s : State) :
    Except Fault State :=
  match threshold code s.budget with
  | some th => if exceeds c th then onExit c s else .ok (stayWith c s)
  | none => .ok (stayWith c s)

/-- One cycle of a phase. -/
def phaseCycle (code : BitVec 4) (onExit : BitVec 17 → State → Except Fault State) (s : State) :
    Outcome State Fault Refusal :=
  blockCycle (exitOrStay code onExit) s

/-- The exit of a mark: ACCUMULATE-AND-RESET, the next space, gate off (42_protocol_encoder.md R145, R147, R152). -/
def toSpace (next : State → BitVec 4) (c : BitVec 17) (s : State) : Except Fault State :=
  (accumulate c s).map fun t => gateOff { t with st := next t }

/-- The exit of a space into a mark that is no data bit (R148, R149, R153). -/
def toMark (next : BitVec 4) (c : BitVec 17) (s : State) : Except Fault State :=
  (accumulate c s).map fun t => gateOn { t with st := next }

/-- The exit of a data bit's space: the stop bit when `cur` = -1, else the next bit (R148, R149). -/
def afterBit (c : BitVec 17) (s : State) : Except Fault State :=
  if s.cur = cursorDone then toMark codeStopOn c s
  else
    match accumulate c s with
    | .ok t => startBit t
    | .error f => .error f

/-- A reserved code's rule (42_protocol_encoder.md R154). -/
def illegal (_ : BitVec 17) (s : State) : Except Fault State := .error (.illegalState s.st)

/-! ### Reset and the stuck block -/

/-- A cycle with `rst` = 1: every piece of the block's state takes its reset value, the fault record is emptied, the
outputs are 0 and no effect is emitted (70_reset_and_hazards.md R230; 10_state.md R35). DC is a constant. -/
def resetBlock (s : State) : State :=
  { s with
    st := codeIdle
    cnt := 0#16
    acc := 0#16
    budget := 0#16
    cur := cursorStart
    curbit := false
    armed := false
    faults := []
    duty := dutyOff
    tmrEn := false
    tmrClr := false
    effects := [] }

/-- A cycle of a stuck block: no register changes, the outputs hold, no effect is emitted (60_exceptions.md R202). -/
def holdBlock (s : State) : State := { s with effects := [] }

end Sys2Proof.Machine
end

