-- ==== Sys2Proof/Machine/Effects.lean ====
section
/-! DEFINITION. The EFFECT rows: an interface operation by itself, as a record to replay
(30_encoding.md R77; 43_external_interfaces.md R181 to R186; log 10). -/

namespace Sys2Proof.Machine

open Host (Outcome)

/-- NONE: no operation, "never emitted as a record" (30_encoding.md R77; spec/opcode_table.json, row NONE). -/
def execEffNone (s : State) : Outcome State Fault Refusal := .next s

/-- TMR_RESET (43_external_interfaces.md R183). -/
def execTmrReset (s : State) : Outcome State Fault Refusal := .next (emit .tmrReset s)

/-- TMR_ARM (R181). -/
def execTmrArm (periodTicks : BitVec 8) (s : State) : Outcome State Fault Refusal := .next (armTimer periodTicks s)

/-- TMR_DISARM (R182). -/
def execTmrDisarm (s : State) : Outcome State Fault Refusal := .next (disarmTimer s)

/-- PWM_DUTY (R185). -/
def execPwmDuty (n : BitVec 8) (s : State) : Outcome State Fault Refusal := .next (emit (.pwmDuty n) s)

/-- BTN_READ with the result its record carries; a read changes nothing else (R186; 20_memory.md R56; log 25). -/
def execBtnRead (asserted : Bool) (s : State) : Outcome State Fault Refusal := .next (emit (.btnRead asserted) s)

/-- RESERVED_11X: "A model that is given one to replay refuses it" (30_encoding.md R77). -/
def execReserved11x (low : BitVec 9) (_s : State) : Outcome State Fault Refusal := .refused (.reservedEffect low)

end Sys2Proof.Machine
end

