-- ==== Sys2Proof/Machine/MicroOps.lean ====
section
/-! DEFINITION. The MICRO_OP rows: the parts of a state rule, each by itself on the cycle's `cnt'`
(40_tick_source.md R104 to R108; 41_subcarrier_output.md R121, R122; 42_protocol_encoder.md R142, R143, R156; log 19). -/

namespace Sys2Proof.Machine

open Host (Outcome)

/-- SET_GATE_ON (41_subcarrier_output.md R121). -/
def execSetGateOn (s : State) : Outcome State Fault Refusal := .next (gateOn s)

/-- SET_GATE_OFF (41_subcarrier_output.md R122). -/
def execSetGateOff (s : State) : Outcome State Fault Refusal := .next (gateOff s)

/-- ACCUMULATE_AND_RESET (40_tick_source.md R104). -/
def execAccumulateAndReset (s : State) : Outcome State Fault Refusal :=
  orRaise s (withTick s fun c => accumulate c s)

/-- CLOSE_FRAME (40_tick_source.md R106). -/
def execCloseFrame (s : State) : Outcome State Fault Refusal :=
  orRaise s (withTick s fun c => closeWith c s)

/-- RESET_ONLY (40_tick_source.md R108). -/
def execResetOnly (s : State) : Outcome State Fault Refusal := .next (clearCount s)

/-- STAY (42_protocol_encoder.md R142). -/
def execStay (s : State) : Outcome State Fault Refusal :=
  orRaise s (withTick s fun c => .ok (stayWith c s))

/-- ENTER_BIT (42_protocol_encoder.md R143). -/
def execEnterBit (s : State) : Outcome State Fault Refusal := orRaise s (startBit s)

/-- TERMINATE (42_protocol_encoder.md R156). -/
def execTerminate (s : State) : Outcome State Fault Refusal := .next (endTransmission s)

end Sys2Proof.Machine
end

