-- ==== Sys2Proof/Machine/States.lean ====
section
/-! DEFINITION. The STATE rows: one clock cycle of each state's rule (42_protocol_encoder.md R144 to R154). -/

namespace Sys2Proof.Machine

open Host (Outcome)

/-- IDLE (R144): the button is read in every cycle, and a press starts a transmission. -/
def execIdle (s : State) : Outcome State Fault Refusal :=
  blockCycle (fun c t => .ok (if btn t then startTransmission (readButton t) else stayWith c (readButton t))) s

/-- LDR_ON (R145). -/
def execLdrOn (s : State) : Outcome State Fault Refusal :=
  phaseCycle codeLdrOn (toSpace fun _ => codeLdrOff) s

/-- LDR_OFF (R146). -/
def execLdrOff (s : State) : Outcome State Fault Refusal :=
  phaseCycle codeLdrOff (fun c t => (accumulate c t).bind startBit) s

/-- BIT_ON (R147). -/
def execBitOn (s : State) : Outcome State Fault Refusal :=
  phaseCycle codeBitOn (toSpace fun t => if t.curbit then codeBit1Off else codeBit0Off) s

/-- BIT0_OFF (R148). -/
def execBit0Off (s : State) : Outcome State Fault Refusal :=
  phaseCycle codeBit0Off afterBit s

/-- STOP_ON (R150). -/
def execStopOn (s : State) : Outcome State Fault Refusal :=
  phaseCycle codeStopOn (fun c t => (closeWith c t).map fun u => gateOff { u with st := codeStopOff }) s

/-- BIT1_OFF (R149). -/
def execBit1Off (s : State) : Outcome State Fault Refusal :=
  phaseCycle codeBit1Off afterBit s

/-- RPT_ON (R152). -/
def execRptOn (s : State) : Outcome State Fault Refusal :=
  phaseCycle codeRptOn (toSpace fun _ => codeRptOff) s

/-- The exit of STOP_OFF (R151): RESET-ONLY, then the button's sample chooses a repeat frame or the end. -/
def leaveStopOff (s : State) : State :=
  if btn s then gateOn { readButton (clearCount s) with cur := cursorStart, st := codeRptOn }
  else endTransmission (readButton (clearCount s))

/-- STOP_OFF (R151). -/
def execStopOff (s : State) : Outcome State Fault Refusal :=
  phaseCycle codeStopOff (fun _ t => .ok (leaveStopOff t)) s

/-- RPT_OFF (R153). -/
def execRptOff (s : State) : Outcome State Fault Refusal :=
  phaseCycle codeRptOff (toMark codeStopOn) s

/-- RESERVED_1001 (R154). -/
def execReserved1001 (s : State) : Outcome State Fault Refusal := blockCycle illegal s

/-- RESERVED_1011 (R154). -/
def execReserved1011 (s : State) : Outcome State Fault Refusal := blockCycle illegal s

/-- RESERVED_11XX (R154), whatever the code's two low bits. -/
def execReserved11xx (_low : BitVec 2) (s : State) : Outcome State Fault Refusal := blockCycle illegal s

end Sys2Proof.Machine
end

