-- ==== Sys2Proof/Machine/Tick.lean ====
section
/-! DEFINITION. The INPUT row: the tick event (40_tick_source.md R101, R102; 43_external_interfaces.md R184). -/

namespace Sys2Proof.Machine

open Host (Outcome)

/-- TICK: the handler's increment with `tick` = 1, "with nothing else" (43_external_interfaces.md R184). The vector's
button bit is not read by it (spec/opcode_table.json, row TICK). -/
def execTick (_btnN : Bool) (s : State) : Outcome State Fault Refusal :=
  orRaise s (withTick { s with tick := true } fun c => .ok (stayWith c s))

end Sys2Proof.Machine
end

