-- ==== Sys2Proof/Machine/Dispatch.lean ====
section
/-! DEFINITION. Every operation's meaning, one arm each. -/

namespace Sys2Proof.Machine

def exec (i : Instr) (s : State) : Host.Outcome State Fault Refusal :=
  match i with
  | .idle => Sys2Proof.Machine.execIdle s
  | .ldrOn => Sys2Proof.Machine.execLdrOn s
  | .ldrOff => Sys2Proof.Machine.execLdrOff s
  | .bitOn => Sys2Proof.Machine.execBitOn s
  | .bit0Off => Sys2Proof.Machine.execBit0Off s
  | .stopOn => Sys2Proof.Machine.execStopOn s
  | .bit1Off => Sys2Proof.Machine.execBit1Off s
  | .rptOn => Sys2Proof.Machine.execRptOn s
  | .stopOff => Sys2Proof.Machine.execStopOff s
  | .rptOff => Sys2Proof.Machine.execRptOff s
  | .reserved1001 => Sys2Proof.Machine.execReserved1001 s
  | .reserved1011 => Sys2Proof.Machine.execReserved1011 s
  | .reserved11xx low => Sys2Proof.Machine.execReserved11xx low s
  | .tick btnN => Sys2Proof.Machine.execTick btnN s
  | .effNone => Sys2Proof.Machine.execEffNone s
  | .tmrReset => Sys2Proof.Machine.execTmrReset s
  | .tmrArm periodTicks => Sys2Proof.Machine.execTmrArm periodTicks s
  | .tmrDisarm => Sys2Proof.Machine.execTmrDisarm s
  | .pwmDuty n => Sys2Proof.Machine.execPwmDuty n s
  | .btnRead asserted => Sys2Proof.Machine.execBtnRead asserted s
  | .reserved11x low => Sys2Proof.Machine.execReserved11x low s
  | .setGateOn => Sys2Proof.Machine.execSetGateOn s
  | .setGateOff => Sys2Proof.Machine.execSetGateOff s
  | .accumulateAndReset => Sys2Proof.Machine.execAccumulateAndReset s
  | .closeFrame => Sys2Proof.Machine.execCloseFrame s
  | .resetOnly => Sys2Proof.Machine.execResetOnly s
  | .stay => Sys2Proof.Machine.execStay s
  | .enterBit => Sys2Proof.Machine.execEnterBit s
  | .terminate => Sys2Proof.Machine.execTerminate s

end Sys2Proof.Machine
end

