-- ==== Sys2Proof/Machine/Environment.lean ====
section
/-! DEFINITION. What lies around the block between two of its cycles: the timer that keeps its contract, the button,
`rst`, and the stimulus script (40_tick_source.md R100, R115; 43_external_interfaces.md R189; 30_encoding.md R84). -/

namespace Sys2Proof.Machine

/-! ### The PeriodicTimer (40_tick_source.md R100) -/

/-- Whether the timer marks a period's end in the next cycle: only while `tmr_en` = 1 (R100 items 1 and 3). -/
def nextTick (t : State) : Bool := t.tmrEn && decide (t.tmrLeft ≤ 1)

/-- The cycles left after the next cycle begins: a full period after a tick (R100 item 1), frozen while disarmed. -/
def nextLeft (t : State) : Nat :=
  if nextTick t then t.clkPerTick else if t.tmrEn then t.tmrLeft - 1 else t.tmrLeft

/-! ### Ticks since the Idle exit (30_encoding.md R84) -/

/-- The count after a cycle that took the machine from s to t: 0 at reset and at an Idle exit, one more in a cycle
that counted a tick, unchanged in a faulted one (log 9). -/
def tickNoAfter (s t : State) : Nat :=
  if s.rst then 0
  else if faulted t then s.tickNo
  else if t.tmrClr then 0
  else if s.armed && s.tick then s.tickNo + 1
  else s.tickNo

/-! ### The button (43_external_interfaces.md R189; 30_encoding.md R84) -/

/-- The line that governs the button once `n` ticks are counted, if any is due: the one with the latest t, wherever it
stands in the script, since `@t` alone says when a line acts. DESIGN CHOICE (log 8): of two with one t, the one that
stands later. -/
def lastDue (n : Nat) : List ButtonEvent → Option ButtonEvent
  | [] => none
  | e :: rest =>
    match lastDue n rest with
    | some d => if e.at_ ≤ n ∧ d.at_ < e.at_ then some e else some d
    | none => if e.at_ ≤ n then some e else none

/-- The script lines due once `n` ticks are counted have acted; the button keeps its last value where none is due.
Answers `btn_n` and the lines still pending. -/
def dueEvents (n : Nat) (btnN : Bool) (events : List ButtonEvent) : Bool × List ButtonEvent :=
  ((lastDue n events).elim btnN fun e => !e.pressed, events.filter fun e => decide (n < e.at_))

/-- `btn_n` of the next cycle, in which `n` ticks are counted, and what is left of the source. -/
def nextButton (n : Nat) (t : State) : Bool × ButtonSource :=
  match t.button with
  | .free => (Config.freeButton (t.cycle + 1), .free)
  | .script events => ((dueEvents n t.btnN events).1, .script (dueEvents n t.btnN events).2)

/-- `rst` of the next cycle: free, but a script has no reset line. -/
def nextReset (t : State) : Bool :=
  match t.button with
  | .free => Config.freeReset (t.cycle + 1)
  | .script _ => false

/-- The number of ticks that will have been counted in the next cycle, its own tick included
(30_encoding.md R84: `@t` is "from the tick cycle in which the t-th tick ... is counted"). -/
def tickNoComing (s t : State) : Nat := tickNoAfter s t + (if t.armed && nextTick t then 1 else 0)

/-- The environment's moves after a clock cycle that took the block from s to t: the inputs of the next cycle. -/
def advance (s t : State) : State :=
  { t with
    rst := nextReset t
    tick := nextTick t
    btnN := (nextButton (tickNoComing s t) t).1
    tmrLeft := nextLeft t
    tickNo := tickNoAfter s t
    button := (nextButton (tickNoComing s t) t).2
    cycle := t.cycle + 1 }

/-! ### Giving the machine a stimulus from outside (30_encoding.md R84; log 8, 22) -/

/-- The pending button lines of a script. -/
def pendingEvents (s : State) : List ButtonEvent :=
  match s.button with
  | .free => []
  | .script events => events

/-- The number of ticks that will have been counted in the coming cycle, its own tick included. -/
def tickNoOfCycle (s : State) : Nat := s.tickNo + (if s.armed && s.tick then 1 else 0)

/-- A script takes hold of the machine: from here on it alone moves the button, `rst` stays low, and the pending lines
due in the coming cycle or before act in it; an `@0` line acts before the first cycle (log 8). -/
def settleButton (s : State) : State :=
  { s with
    rst := false
    btnN := (dueEvents (tickNoOfCycle s) s.btnN (pendingEvents s)).1
    button := .script (dueEvents (tickNoOfCycle s) s.btnN (pendingEvents s)).2 }

/-- The `code` line and the button lines of a script given to a machine. -/
def loadScript (code : BitVec 32) (events : List ButtonEvent) (s : State) : State :=
  settleButton { s with dc := code, button := .script events }

end Sys2Proof.Machine
end

