-- ==== Sys2Proof/Machine/Fetch.lean ====
section
/-! DEFINITION. What a step runs next, and placing an operation there (42_protocol_encoder.md R140; 30_encoding.md R77). -/

namespace Sys2Proof.Machine

/-- The state rule the block dispatches to: the one `st` names (42_protocol_encoder.md R140 item 3). -/
def fetchState (s : State) : Instr := decodeState s.st

/-- The machine with a word placed where its next step fetches: a STATE code in `st`, an INPUT vector at the input
ports, an EFFECT record at the head of the records to replay. `rst`, the fault record and earlier records to replay
are put out of the way, so that the very next step runs it (log 22). -/
def placeWord (word : Word) (s : State) : State :=
  match word with
  | .state code => { s with st := code, rst := false, faults := [], replay := [] }
  | .input vec => { s with tick := vec.getLsbD 1, btnN := vec.getLsbD 0, rst := false, faults := [], replay := [] }
  | .effect rec => { s with replay := rec :: s.replay, rst := false, faults := [] }

end Sys2Proof.Machine
end

