-- ==== Sys2Proof/Machine/Step.lean ====
section
/-! DEFINITION. One step: one cycle of `clk` (00_scope.md R17; 42_protocol_encoder.md R140), or the replay of one
effect record given to the model (30_encoding.md R77; log 10). -/

namespace Sys2Proof.Machine

open Host (Outcome)

/-- The outcome of a clock cycle with the environment's moves after it. -/
def thenAdvance (s : State) : Outcome State Fault Refusal → Outcome State Fault Refusal
  | .next t => .next (advance s t)
  | .fault f => .fault f
  | .refused r => .refused r

/-- One step. `rst` comes first (70_reset_and_hazards.md R230), then the fault check (42_protocol_encoder.md R140
item 1), then the state rule `st` names; a record given to replay runs alone, and no clock cycle passes. -/
def step (s : State) : Outcome State Fault Refusal :=
  if s.rst then .next (advance s (resetBlock s))
  else if faulted s then .next (advance s (holdBlock s))
  else
    match s.replay with
    | [] => thenAdvance s (exec (fetchState s) s)
    | rec :: rest =>
      match decodeEffect rec with
      | .ok i => exec i { s with replay := rest }
      | .error _ => .refused (.notAnEffectRecord rec)

/-- `s` with the operation whose bits are `w` placed where `step` fetches next; unchanged where `nbits` and `w` are
no word of a format. -/
def State.withFetchWord (s : State) (nbits w : Nat) : State :=
  match tableWord nbits w with
  | some word => placeWord word s
  | none => s

end Sys2Proof.Machine
end

