-- ==== Sys2Proof/Machine/Script.lean ====
section
/-! DEFINITION. Stimulus scripts, the programs of the block (30_encoding.md R84), and how long a run under one lasts. -/

namespace Sys2Proof.Machine

/-- A line of a stimulus script (30_encoding.md R84). -/
inductive ScriptLine where
  /-- `code HEX32`: sets DEVICE_CODE (after a `run` line: log 28). -/
  | code (dc : BitVec 32)
  /-- `@t press`. -/
  | press (at_ : Nat)
  /-- `@t release`. -/
  | release (at_ : Nat)
  /-- `run until MNEMONIC #n`, the mnemonic given as its STATE code. -/
  | runUntil (code : BitVec 4) (n : Nat)
  /-- `run idle`. -/
  | runIdle
  /-- `; comment`. -/
  | comment
deriving DecidableEq, Repr

/-- A button line is given to the machine; it acts at once where it is already due (log 8). -/
def addEvent (e : ButtonEvent) (s : State) : State :=
  settleButton { s with button := .script (pendingEvents s ++ [e]) }

/-- A run does not go on from here: the block is stuck, which is never the end of a run, or `rst` begins a new one
(60_exceptions.md R202; 70_reset_and_hazards.md R245). -/
def runBroken (s : State) : Bool := s.rst || faulted s

/-- The cycle from s to t ended a transmission: out of a phase into Idle by TERMINATE, the one rule that leads there,
not by `rst` and not out of a stuck block (70_reset_and_hazards.md R244, R245). -/
def transmissionEnded (s t : State) : Bool :=
  !runBroken s && decide (s.st ≠ codeIdle) && decide (t.st = codeIdle) && !faulted t

/-- Run until `st` comes to hold the code for the n-th time from here; `none` where that takes more cycles than
`fuel`, the run is broken off or a step is stopped. -/
def untilEntered (code : BitVec 4) : Nat → Nat → State → Option State
  | 0, _, _ => none
  | fuel + 1, n, s =>
    if runBroken s then none
    else
      match step s with
      | .next t =>
        if t.st = code ∧ s.st ≠ code then
          if n ≤ 1 then some t else untilEntered code fuel (n - 1) t
        else untilEntered code fuel n t
      | .fault _ => none
      | .refused _ => none

/-- Run until a transmission has ended; `none` as for `untilEntered`.
DESIGN CHOICE (log 8): it waits for a transmission that ends after it begins. Given in Idle, after a transmission too,
it does not end at once but with the next one; 30_encoding.md R84 does not say. -/
def untilEnded : Nat → State → Option State
  | 0, _ => none
  | fuel + 1, s =>
    if runBroken s then none
    else
      match step s with
      | .next t => if transmissionEnded s t then some t else untilEnded fuel t
      | .fault _ => none
      | .refused _ => none

/-- Run until `st` holds the code for the n-th time. A state that `st` holds here counts as held once, but for a faulted
block, which is never the end of a run (60_exceptions.md R202; log 8). DESIGN CHOICE (log 8): the times are counted
from here, and `#0` is read as `#1`. -/
def untilHeld (code : BitVec 4) (fuel n : Nat) (s : State) : Option State :=
  if runBroken s then none
  else if s.st = code then
    if n ≤ 1 then some s else untilEntered code fuel (n - 1) s
  else untilEntered code fuel n s

/-- What a line does to the machine, a `run` line with at most `fuel` cycles.
DESIGN CHOICE, unsafe (log 28): a `code` line sets DEVICE_CODE where it stands, after a `run` line and in the middle of a
transmission too. The spec lets it stand there (30_encoding.md R84) but calls the code a constant for the run (R84;
00_scope.md R6; 10_state.md R29; 20_memory.md R61) and does not say what such a line does. -/
def doLine (fuel : Nat) (line : ScriptLine) (s : State) : Option State :=
  match line with
  | .code dc => some { s with dc := dc }
  | .press t => some (addEvent { at_ := t, pressed := true } s)
  | .release t => some (addEvent { at_ := t, pressed := false } s)
  | .runUntil code n => untilHeld code fuel n (settleButton s)
  | .runIdle => untilEnded fuel (settleButton s)
  | .comment => some s

/-- What a script does to the machine, line by line. -/
def runScript (fuel : Nat) : List ScriptLine → State → Option State
  | [], s => some s
  | line :: rest, s =>
    match doLine fuel line s with
    | some t => runScript fuel rest t
    | none => none

end Sys2Proof.Machine
end

