-- ==== Sys2Proof/Machine/Waveform.lean ====
section
/-! DEFINITION. The symbols on the air and the frames they make, in ticks (30_encoding.md R82, R85;
40_tick_source.md R110 to R113; 41_subcarrier_output.md R130). No step computes them: they say what a run's phases
must be. -/

namespace Sys2Proof.Machine

/-- A phase of a frame: the state's code and its length in ticks. -/
abbrev Phase := BitVec 4 × Nat

/-- The value of the k-th bit sent, k from 0: most significant first (20_memory.md R52; 42_protocol_encoder.md R160). -/
def sentBit (dc : BitVec 32) (k : Nat) : Bool := dc.getLsbD (31 - k)

/-- The two phases of a data bit (30_encoding.md R82). -/
def bitPhases (b : Bool) : List Phase :=
  [(codeBitOn, 22), if b then (codeBit1Off, 64) else (codeBit0Off, 21)]

/-- The length of a data bit in ticks (30_encoding.md R82). -/
def bitLength (b : Bool) : Nat := 22 + if b then 64 else 21

/-- The length of the first `n` bits sent. -/
def bitTicks (dc : BitVec 32) : Nat → Nat
  | 0 => 0
  | n + 1 => bitTicks dc n + bitLength (sentBit dc n)

/-- S of a data frame: every tick up to StopOn's exit (40_tick_source.md R112). -/
def dataTotal (dc : BitVec 32) : Nat := 341 + 171 + bitTicks dc 32 + 22

/-- S of a repeat frame (40_tick_source.md R112). -/
def repeatTotal : Nat := 341 + 86 + 22

/-- The number of zero bits of DeviceCode, z of 40_tick_source.md R112. -/
def zeroBits (dc : BitVec 32) : Nat := ((List.range 32).filter fun i => !dc.getLsbD i).length

/-- DATA_FRAME with its phase lengths (30_encoding.md R85; 41_subcarrier_output.md R130). -/
def dataFrame (dc : BitVec 32) : List Phase :=
  [(codeLdrOn, 341), (codeLdrOff, 171)]
    ++ (List.range 32).flatMap (fun k => bitPhases (sentBit dc k))
    ++ [(codeStopOn, 22), (codeStopOff, framePeriods - dataTotal dc + 1)]

/-- REPEAT_FRAME with its phase lengths (30_encoding.md R85; 41_subcarrier_output.md R130). -/
def repeatFrame : List Phase :=
  [(codeRptOn, 341), (codeRptOff, 86), (codeStopOn, 22), (codeStopOff, framePeriods - repeatTotal + 1)]

/-- The length of a list of phases in ticks. -/
def phaseTicks (phases : List Phase) : Nat := (phases.map Prod.snd).sum

/-- The state code at each tick of a list of phases. -/
def codesAtTicks (phases : List Phase) : List (BitVec 4) := phases.flatMap fun p => List.replicate p.2 p.1

/-- A symbol of a waveform trace: a mark `M<n>` or a space `S<n>` of n ticks (30_encoding.md R82, R85). -/
inductive Symbol where
  | mark (ticks : Nat)
  | space (ticks : Nat)
deriving DecidableEq, Repr

/-- The symbol a phase puts on the air: a mark while its gate is on (30_encoding.md R72, R82). -/
def symbolOf (p : Phase) : Symbol := if gateOf p.1 then .mark p.2 else .space p.2

/-- The waveform trace of a list of phases. -/
def waveform (phases : List Phase) : List Symbol := phases.map symbolOf

/-- The nominal time of a number of ticks in nanoseconds, informative (70_reset_and_hazards.md R241). -/
def nominalNs (ticks : Nat) : Nat := ticks * Config.nominalPeriodNs

end Sys2Proof.Machine
end

