-- ==== Sys2Proof/Safety.lean ====
section
/-! DEFINITION. What claims about the machine are said in: the count a cycle compares, the ports' agreement with the
state, the invariant of every reachable state, the end of a transmission, and runs on given inputs. -/

namespace Sys2Proof.Safety

open Sys2Proof.Machine

/-- The next state of an outcome that has one. -/
def nextOf (o : Host.Outcome State Fault Refusal) : Option State :=
  match o with
  | .next t => some t
  | .fault _ => none
  | .refused _ => none

/-- `cnt'` as an exact count: the ticks of the phase up to and including the cycle's own (40_tick_source.md R101). -/
def countAfter (s : State) : Nat := s.cnt.toNat + if s.armed && s.tick then 1 else 0

/-- The output ports agree with the state: `duty` is 70 on a mark and 0 otherwise, `tmr_en` is `armed`
(30_encoding.md R76; 41_subcarrier_output.md R123). -/
abbrev portsAgree (s : State) : Prop :=
  s.duty = (if s.st.getLsbD 0 then 70#8 else 0#8) ∧ s.tmrEn = s.armed

/-- The ports agree with the state and the strobe is down. -/
abbrev portsSettled (s : State) : Prop := portsAgree s ∧ s.tmrClr = false

/-- The state a STAY cycle leaves: `cnt'` in `cnt`, no effect, the strobe down (42_protocol_encoder.md R142;
30_encoding.md R76). -/
def stayed (s : State) : State :=
  { s with cnt := BitVec.ofNat 16 (countAfter s), effects := [], tmrClr := false }

/-- The state a cycle leaves that raised a first fault: the record, and nothing else (60_exceptions.md R202). -/
def stuckOn (f : Fault) (s : State) : State := { s with effects := [], faults := [f] }

/-- The STATE rows of the reserved codes (30_encoding.md R73). -/
abbrev isReserved (i : Instr) : Prop := i = .reserved1001 ∨ i = .reserved1011 ∨ ∃ low, i = .reserved11xx low

/-- `st` holds one of the ten codes (30_encoding.md R71). -/
abbrev legalCode (code : BitVec 4) : Prop :=
  code ∈ [codeIdle, codeLdrOn, codeLdrOff, codeBitOn, codeBit0Off, codeStopOn, codeBit1Off, codeRptOn, codeStopOff,
    codeRptOff]

/-- The number of data bits wholly sent before the bit whose mark or space is on the air: `cur` has already moved on
to the next bit (42_protocol_encoder.md R143, R160). -/
def bitsSent (s : State) : Nat := (30 - s.cur.toInt).toNat

/-- `cur` while a data bit is on the air (42_protocol_encoder.md R159). -/
abbrev cursorInBits (s : State) : Prop := -1 ≤ s.cur.toInt ∧ s.cur.toInt ≤ 30

/-- What the registers hold in each state of a transmission (40_tick_source.md R104 to R112;
42_protocol_encoder.md R144 to R153, R159, R160); a reserved code holds nothing. -/
abbrev phaseData (s : State) : Prop :=
  if s.st = codeIdle then s.cnt = 0#16 ∧ s.acc = 0#16 ∧ s.cur = 31#6
  else if s.st = codeLdrOn then s.cnt.toNat ≤ 340 ∧ s.acc = 0#16 ∧ s.cur = 31#6
  else if s.st = codeLdrOff then s.cnt.toNat ≤ 170 ∧ s.acc.toNat = 341 ∧ s.cur = 31#6
  else if s.st = codeBitOn then
    s.cnt.toNat ≤ 21 ∧ cursorInBits s ∧ s.acc.toNat = 512 + bitTicks s.dc (bitsSent s)
      ∧ s.curbit = sentBit s.dc (bitsSent s)
  else if s.st = codeBit0Off then
    s.cnt.toNat ≤ 20 ∧ cursorInBits s ∧ s.acc.toNat = 512 + bitTicks s.dc (bitsSent s) + 22
      ∧ sentBit s.dc (bitsSent s) = false
  else if s.st = codeBit1Off then
    s.cnt.toNat ≤ 63 ∧ cursorInBits s ∧ s.acc.toNat = 512 + bitTicks s.dc (bitsSent s) + 22
      ∧ sentBit s.dc (bitsSent s) = true
  else if s.st = codeStopOn then
    s.cnt.toNat ≤ 21 ∧ ((s.cur.toInt = -1 ∧ s.acc.toNat + 22 = dataTotal s.dc) ∨
      (s.cur = 31#6 ∧ s.acc.toNat + 22 = repeatTotal))
  else if s.st = codeStopOff then
    s.cnt.toNat ≤ s.budget.toNat ∧ s.acc = 0#16 ∧
      ((s.cur.toInt = -1 ∧ dataTotal s.dc + s.budget.toNat = 4095) ∨
        (s.cur = 31#6 ∧ repeatTotal + s.budget.toNat = 4095))
  else if s.st = codeRptOn then s.cnt.toNat ≤ 340 ∧ s.acc = 0#16 ∧ s.cur = 31#6
  else if s.st = codeRptOff then s.cnt.toNat ≤ 85 ∧ s.acc.toNat = 341 ∧ s.cur = 31#6
  else False

/-- The ticks of the current frame so far (40_tick_source.md R113). -/
def frameClock (s : State) : Nat :=
  if s.st = codeStopOff then 4095 - s.budget.toNat + s.cnt.toNat else s.acc.toNat + s.cnt.toNat

/-- The invariant of the reachable states: no fault, nothing given to replay, the ports agree with the state, the
Tick Source is enabled exactly outside Idle (10_state.md R28), the registers hold what the phase says, and the
ticks since the Idle exit are whole frames of 4096 and the current frame's (40_tick_source.md R113;
42_protocol_encoder.md R163). -/
abbrev FrameInv (s : State) : Prop :=
  s.faults = [] ∧ s.replay = [] ∧ portsAgree s ∧ s.armed = decide (s.st ≠ codeIdle) ∧ phaseData s
    ∧ s.tickNo % 4096 = frameClock s

/-- The timer's contract as a fact of one state: a tick comes only while `tmr_en` = 1 (40_tick_source.md R100 item 3),
and the next one is at most a period away. -/
abbrev TimerInv (s : State) : Prop :=
  1 ≤ s.clkPerTick ∧ s.tmrLeft ≤ s.clkPerTick ∧ (s.tick = true → s.tmrEn = true)

/-- A quiescent state: Idle with the button released and the outputs off (70_reset_and_hazards.md R244). -/
abbrev quiescent (s : State) : Prop :=
  s.st = codeIdle ∧ s.btnN = true ∧ s.duty = 0#8 ∧ s.tmrEn = false

/-! ### Runs on given inputs -/

/-- The machine about to take a cycle on the given inputs, `rst` = 0 (30_encoding.md R74). -/
def present (tick btnN : Bool) (s : State) : State := { s with rst := false, tick := tick, btnN := btnN }

/-- The state after cycles on the given `(tick, btn_n)` inputs, while each step answers a next state. -/
def runInputs : List (Bool × Bool) → State → Option State
  | [], s => some s
  | v :: rest, s =>
    match step (present v.1 v.2 s) with
    | .next t => runInputs rest t
    | .fault _ => none
    | .refused _ => none

/-- The number of tick cycles among inputs. -/
def tickCount (inputs : List (Bool × Bool)) : Nat := inputs.countP fun v => v.1

/-- `btn_n` in the n-th tick cycle among inputs, n from 1. -/
def buttonAtTick (n : Nat) (inputs : List (Bool × Bool)) : Option Bool :=
  ((inputs.filter fun v => v.1)[n - 1]?).map fun v => v.2

/-- The state code of each tick cycle of a run on the given inputs, as the cycle begins. -/
def tickTrace : List (Bool × Bool) → State → List (BitVec 4)
  | [], _ => []
  | v :: rest, s =>
    match step (present v.1 v.2 s) with
    | .next t => if v.1 then s.st :: tickTrace rest t else tickTrace rest t
    | .fault _ => []
    | .refused _ => []

/-- The output ports after an effect record is put through to them (30_encoding.md R76, R77):
`(duty, tmr_en, tmr_clr)`. -/
def portsAfter (ports : BitVec 8 × Bool × Bool) (e : Effect) : BitVec 8 × Bool × Bool :=
  match e with
  | .tmrReset => (ports.1, ports.2.1, true)
  | .tmrArm _ => (ports.1, true, ports.2.2)
  | .tmrDisarm => (ports.1, false, ports.2.2)
  | .pwmDuty n => (n, ports.2.1, ports.2.2)
  | .btnRead _ => ports

end Sys2Proof.Safety
end

