-- ==== Sys2Proof/Certificates/Slice0/Obligations.lean ====
section
/-! DEFINITION. The statements for the provers: what the spec's numbered rules say of the model, over every state. -/

open Sys2Proof Sys2Proof.Machine Sys2Proof.Safety

/-! ### Encodings -/

/-- A word of each format, written out bit by bit from 30_encoding.md R71, R73, R74 and R77, decodes to its row. -/
def Obligations.DecodeGoldenWords : Prop :=
  decode (.state 0b0000#4) = .ok .idle ∧ decode (.state 0b0110#4) = .ok .bit1Off ∧
  decode (.state 0b1010#4) = .ok .rptOff ∧ decode (.state 0b1101#4) = .ok (.reserved11xx 0b01#2) ∧
  decode (.input 0b10#2) = .ok (.tick false) ∧ decode (.input 0b01#2) = .error .noTick ∧
  decode (.effect 0b01011010010#11) = .ok (.tmrArm 210#8) ∧ decode (.effect 0b10001000110#11) = .ok (.pwmDuty 70#8) ∧
  decode (.effect 0b10100000001#11) = .ok (.btnRead true) ∧
  decode (.effect 0b11100000101#11) = .ok (.reserved11x 0b100000101#9)

/-- Every well-formed operation with a word of its own, whatever its operands, is read back from its word. -/
def Obligations.EncodeDecodeRoundTrip : Prop :=
  ∀ i : Instr, i.wf = true → i.format ≠ .microOp →
    ∃ w, encode i = some w ∧ w.format = i.format ∧ decode w = .ok i

/-- Every word that decodes is the word of the well-formed operation it decodes to: no two words of a format decode
to one operation. -/
def Obligations.DecodedWordIsItsEncoding : Prop :=
  ∀ (w : Word) (i : Instr), decode w = .ok i → i.wf = true ∧ encode i = some w

/-- The reserved op codes 110 and 111 decode to RESERVED_11X, and the model refuses it in every state: it stops so on
every path (30_encoding.md R77). -/
def Obligations.ReservedEffectOpCodesAreRefused : Prop :=
  (∀ low : BitVec 9, decodeEffect (0b11#2 ++ low) = .ok (.reserved11x low)) ∧
  ∀ (low : BitVec 9) (s : State), exec (.reserved11x low) s = .refused (.reservedEffect low)

/-! ### The state rules: STAY, exit and fault, with everything else unchanged -/

/-- IDLE (42_protocol_encoder.md R144): the button is read in every cycle; a press starts a transmission, otherwise
STAY; `budget`, `curbit` and every other field are unchanged, but for the countdown of the model's timer, of which this
says nothing. -/
def Obligations.IdleRule : Prop :=
  ∀ s : State, countAfter s ≤ 0xFFFF →
    (s.btnN = true → portsSettled s → exec .idle s = .next { stayed s with effects := [.btnRead false] }) ∧
    (s.btnN = false → ∃ t, exec .idle s = .next t ∧ { t with tmrLeft := s.tmrLeft } = { s with
      st := codeLdrOn, cnt := 0#16, acc := 0#16, cur := 31#6, armed := true
      duty := 70#8, tmrEn := true, tmrClr := true
      effects := [.btnRead true, .tmrReset, .tmrArm 210#8, .pwmDuty 70#8] })

/-- LDR_ON (R145). -/
def Obligations.LeaderOnRule : Prop :=
  ∀ s : State,
    (countAfter s ≤ 340 → portsSettled s → exec .ldrOn s = .next (stayed s)) ∧
    (340 < countAfter s → s.acc.toNat + countAfter s ≤ 0xFFFF → exec .ldrOn s = .next { s with
      st := codeLdrOff, acc := BitVec.ofNat 16 (s.acc.toNat + countAfter s), cnt := 0#16
      duty := 0#8, tmrEn := s.armed, tmrClr := false, effects := [.pwmDuty 0#8] }) ∧
    (340 < countAfter s → countAfter s ≤ 0xFFFF → 0xFFFF < s.acc.toNat + countAfter s →
      s.faults = [] → s.tmrClr = false → exec .ldrOn s = .next (stuckOn (.accOverflow s.st s.acc (cntNext s)) s))

/-- LDR_OFF (R146): ENTER-BIT latches `DC[cur]` and moves `cur` on; a negative `cur` is CursorRange. -/
def Obligations.LeaderOffRule : Prop :=
  ∀ s : State,
    (countAfter s ≤ 170 → portsSettled s → exec .ldrOff s = .next (stayed s)) ∧
    (170 < countAfter s → s.acc.toNat + countAfter s ≤ 0xFFFF → 0 ≤ s.cur.toInt →
      exec .ldrOff s = .next { s with
      st := codeBitOn, acc := BitVec.ofNat 16 (s.acc.toNat + countAfter s), cnt := 0#16
      curbit := s.dc.getLsbD s.cur.toInt.toNat, cur := s.cur - 1#6
      duty := 70#8, tmrEn := s.armed, tmrClr := false, effects := [.pwmDuty 70#8] }) ∧
    (170 < countAfter s → countAfter s ≤ 0xFFFF → 0xFFFF < s.acc.toNat + countAfter s →
      s.faults = [] → s.tmrClr = false → exec .ldrOff s = .next (stuckOn (.accOverflow s.st s.acc (cntNext s)) s)) ∧
    (170 < countAfter s → s.acc.toNat + countAfter s ≤ 0xFFFF → s.cur.toInt < 0 → s.faults = [] →
      ∃ t, exec .ldrOff s = .next t ∧ t.faults = [.cursorRange s.cur] ∧ t.st = s.st ∧ t.cur = s.cur ∧
        t.curbit = s.curbit ∧ t.effects = [])

/-- BIT_ON (R147): `curbit` chooses the space. -/
def Obligations.BitOnRule : Prop :=
  ∀ s : State,
    (countAfter s ≤ 21 → portsSettled s → exec .bitOn s = .next (stayed s)) ∧
    (21 < countAfter s → s.acc.toNat + countAfter s ≤ 0xFFFF → exec .bitOn s = .next { s with
      st := (if s.curbit then codeBit1Off else codeBit0Off)
      acc := BitVec.ofNat 16 (s.acc.toNat + countAfter s), cnt := 0#16
      duty := 0#8, tmrEn := s.armed, tmrClr := false, effects := [.pwmDuty 0#8] }) ∧
    (21 < countAfter s → countAfter s ≤ 0xFFFF → 0xFFFF < s.acc.toNat + countAfter s →
      s.faults = [] → s.tmrClr = false → exec .bitOn s = .next (stuckOn (.accOverflow s.st s.acc (cntNext s)) s))

/-- BIT0_OFF (R148): the stop bit once `cur` = -1, else the next bit. -/
def Obligations.BitZeroOffRule : Prop :=
  ∀ s : State,
    (countAfter s ≤ 20 → portsSettled s → exec .bit0Off s = .next (stayed s)) ∧
    (20 < countAfter s → s.acc.toNat + countAfter s ≤ 0xFFFF → s.cur.toInt = -1 →
      exec .bit0Off s = .next { s with
      st := codeStopOn, acc := BitVec.ofNat 16 (s.acc.toNat + countAfter s), cnt := 0#16
      duty := 70#8, tmrEn := s.armed, tmrClr := false, effects := [.pwmDuty 70#8] }) ∧
    (20 < countAfter s → s.acc.toNat + countAfter s ≤ 0xFFFF → 0 ≤ s.cur.toInt →
      exec .bit0Off s = .next { s with
      st := codeBitOn, acc := BitVec.ofNat 16 (s.acc.toNat + countAfter s), cnt := 0#16
      curbit := s.dc.getLsbD s.cur.toInt.toNat, cur := s.cur - 1#6
      duty := 70#8, tmrEn := s.armed, tmrClr := false, effects := [.pwmDuty 70#8] }) ∧
    (20 < countAfter s → countAfter s ≤ 0xFFFF → 0xFFFF < s.acc.toNat + countAfter s →
      s.faults = [] → s.tmrClr = false → exec .bit0Off s = .next (stuckOn (.accOverflow s.st s.acc (cntNext s)) s)) ∧
    (20 < countAfter s → s.acc.toNat + countAfter s ≤ 0xFFFF → s.cur.toInt < -1 → s.faults = [] →
      ∃ t, exec .bit0Off s = .next t ∧ t.faults = [.cursorRange s.cur] ∧ t.st = s.st ∧ t.cur = s.cur ∧
        t.curbit = s.curbit ∧ t.effects = [])

/-- BIT1_OFF (R149). -/
def Obligations.BitOneOffRule : Prop :=
  ∀ s : State,
    (countAfter s ≤ 63 → portsSettled s → exec .bit1Off s = .next (stayed s)) ∧
    (63 < countAfter s → s.acc.toNat + countAfter s ≤ 0xFFFF → s.cur.toInt = -1 →
      exec .bit1Off s = .next { s with
      st := codeStopOn, acc := BitVec.ofNat 16 (s.acc.toNat + countAfter s), cnt := 0#16
      duty := 70#8, tmrEn := s.armed, tmrClr := false, effects := [.pwmDuty 70#8] }) ∧
    (63 < countAfter s → s.acc.toNat + countAfter s ≤ 0xFFFF → 0 ≤ s.cur.toInt →
      exec .bit1Off s = .next { s with
      st := codeBitOn, acc := BitVec.ofNat 16 (s.acc.toNat + countAfter s), cnt := 0#16
      curbit := s.dc.getLsbD s.cur.toInt.toNat, cur := s.cur - 1#6
      duty := 70#8, tmrEn := s.armed, tmrClr := false, effects := [.pwmDuty 70#8] }) ∧
    (63 < countAfter s → countAfter s ≤ 0xFFFF → 0xFFFF < s.acc.toNat + countAfter s →
      s.faults = [] → s.tmrClr = false → exec .bit1Off s = .next (stuckOn (.accOverflow s.st s.acc (cntNext s)) s)) ∧
    (63 < countAfter s → s.acc.toNat + countAfter s ≤ 0xFFFF → s.cur.toInt < -1 → s.faults = [] →
      ∃ t, exec .bit1Off s = .next t ∧ t.faults = [.cursorRange s.cur] ∧ t.st = s.st ∧ t.cur = s.cur ∧
        t.curbit = s.curbit ∧ t.effects = [])

/-- STOP_ON (R150): CLOSE-FRAME. -/
def Obligations.StopOnRule : Prop :=
  ∀ s : State,
    (countAfter s ≤ 21 → portsSettled s → exec .stopOn s = .next (stayed s)) ∧
    (21 < countAfter s → s.acc.toNat + countAfter s ≤ 4095 → exec .stopOn s = .next { s with
      st := codeStopOff, budget := BitVec.ofNat 16 (4095 - (s.acc.toNat + countAfter s)), acc := 0#16, cnt := 0#16
      duty := 0#8, tmrEn := s.armed, tmrClr := false, effects := [.pwmDuty 0#8] }) ∧
    (21 < countAfter s → countAfter s ≤ 0xFFFF → 4095 < s.acc.toNat + countAfter s →
      s.faults = [] → s.tmrClr = false → exec .stopOn s = .next (stuckOn (.budgetUnderflow (s.acc.toNat + countAfter s)) s))

/-- STOP_OFF (R151): the button's sample in the exit cycle chooses a repeat frame, with `acc` untouched, or
TERMINATE. -/
def Obligations.StopOffRule : Prop :=
  ∀ s : State,
    (countAfter s ≤ s.budget.toNat → portsSettled s → exec .stopOff s = .next (stayed s)) ∧
    (s.budget.toNat < countAfter s → countAfter s ≤ 0xFFFF → s.btnN = false → exec .stopOff s = .next { s with
      st := codeRptOn, cnt := 0#16, cur := 31#6
      duty := 70#8, tmrEn := s.armed, tmrClr := false, effects := [.btnRead true, .pwmDuty 70#8] }) ∧
    (s.budget.toNat < countAfter s → countAfter s ≤ 0xFFFF → s.btnN = true → exec .stopOff s = .next { s with
      st := codeIdle, cnt := 0#16, acc := 0#16, cur := 31#6, armed := false
      duty := 0#8, tmrEn := false, tmrClr := false, effects := [.btnRead false, .tmrDisarm] })

/-- RPT_ON (R152). -/
def Obligations.RepeatOnRule : Prop :=
  ∀ s : State,
    (countAfter s ≤ 340 → portsSettled s → exec .rptOn s = .next (stayed s)) ∧
    (340 < countAfter s → s.acc.toNat + countAfter s ≤ 0xFFFF → exec .rptOn s = .next { s with
      st := codeRptOff, acc := BitVec.ofNat 16 (s.acc.toNat + countAfter s), cnt := 0#16
      duty := 0#8, tmrEn := s.armed, tmrClr := false, effects := [.pwmDuty 0#8] }) ∧
    (340 < countAfter s → countAfter s ≤ 0xFFFF → 0xFFFF < s.acc.toNat + countAfter s →
      s.faults = [] → s.tmrClr = false → exec .rptOn s = .next (stuckOn (.accOverflow s.st s.acc (cntNext s)) s))

/-- RPT_OFF (R153). -/
def Obligations.RepeatOffRule : Prop :=
  ∀ s : State,
    (countAfter s ≤ 85 → portsSettled s → exec .rptOff s = .next (stayed s)) ∧
    (85 < countAfter s → s.acc.toNat + countAfter s ≤ 0xFFFF → exec .rptOff s = .next { s with
      st := codeStopOn, acc := BitVec.ofNat 16 (s.acc.toNat + countAfter s), cnt := 0#16
      duty := 70#8, tmrEn := s.armed, tmrClr := false, effects := [.pwmDuty 70#8] }) ∧
    (85 < countAfter s → countAfter s ≤ 0xFFFF → 0xFFFF < s.acc.toNat + countAfter s →
      s.faults = [] → s.tmrClr = false → exec .rptOff s = .next (stuckOn (.accOverflow s.st s.acc (cntNext s)) s))

/-- The reserved codes (R154): IllegalState with the code in `st` is recorded, no register changes and no effect is
emitted. -/
def Obligations.ReservedCodesRecordIllegalState : Prop :=
  ∀ (s : State) (low : BitVec 2), countAfter s ≤ 0xFFFF → s.faults = [] → s.tmrClr = false →
    exec .reserved1001 s = .next (stuckOn (.illegalState s.st) s) ∧
    exec .reserved1011 s = .next (stuckOn (.illegalState s.st) s) ∧
    exec (.reserved11xx low) s = .next (stuckOn (.illegalState s.st) s)

/-- CounterOverflow (40_tick_source.md R101, R103) comes before any state rule (60_exceptions.md R207), IllegalState's
included; and a micro-operation that takes `cnt'` records it by itself. -/
def Obligations.CounterOverflowComesFirst : Prop :=
  ∀ (s : State) (i : Instr), 0xFFFF < countAfter s → s.faults = [] →
    (i.format = .state → s.tmrClr = false → exec i s = .next (stuckOn (.counterOverflow s.st) s)) ∧
    (i ∈ [.accumulateAndReset, .closeFrame, .stay] → exec i s = .next { s with faults := [.counterOverflow s.st] })

/-- CursorRange discards the exit it ends (log 2): `acc` and `cnt`, which ACCUMULATE-AND-RESET would have written
before ENTER-BIT raised it, keep their values, and so does everything else. The model's choice. -/
def Obligations.CursorRangeDiscardsTheExit : Prop :=
  ∀ s : State, s.faults = [] →
    (170 < countAfter s → s.acc.toNat + countAfter s ≤ 0xFFFF → s.cur.toInt < 0 →
      exec .ldrOff s = .next (stuckOn (.cursorRange s.cur) s)) ∧
    (20 < countAfter s → s.acc.toNat + countAfter s ≤ 0xFFFF → s.cur.toInt < -1 →
      exec .bit0Off s = .next (stuckOn (.cursorRange s.cur) s)) ∧
    (63 < countAfter s → s.acc.toNat + countAfter s ≤ 0xFFFF → s.cur.toInt < -1 →
      exec .bit1Off s = .next (stuckOn (.cursorRange s.cur) s))

/-- The strobe `tmr_clr` (30_encoding.md R76): up after an Idle exit and after no other cycle, so that it falls in the
STAY cycle that follows (log 15); held by a cycle that raises a fault and by every cycle of a stuck block
(60_exceptions.md R202; log 16); and read by no rule. The state rules above are stated of cycles that begin with it
down. -/
def Obligations.StrobeIsUpAfterAnIdleExitAlone : Prop :=
  (∀ (i : Instr) (s t : State), i.format = .state → s.faults = [] → exec i s = .next t →
    (t.faults = [] → (t.tmrClr = true ↔ i = .idle ∧ s.btnN = false)) ∧
    (t.faults ≠ [] → t.tmrClr = s.tmrClr) ∧
    ∀ b : Bool, ∃ u, exec i { s with tmrClr := b } = .next u ∧ { u with tmrClr := t.tmrClr } = t) ∧
  ∀ s t : State, s.rst = false → s.faults ≠ [] → step s = .next t → t.tmrClr = s.tmrClr

/-- The threshold operand of each code (30_encoding.md R80); Idle has none, nor has a reserved code. -/
def Obligations.ThresholdOperand : Prop :=
  ∀ budget : BitVec 16,
    threshold codeLdrOn budget = some 340#16 ∧ threshold codeLdrOff budget = some 170#16 ∧
    threshold codeBitOn budget = some 21#16 ∧ threshold codeBit0Off budget = some 20#16 ∧
    threshold codeBit1Off budget = some 63#16 ∧ threshold codeRptOn budget = some 340#16 ∧
    threshold codeRptOff budget = some 85#16 ∧ threshold codeStopOn budget = some 21#16 ∧
    threshold codeStopOff budget = some budget ∧ threshold codeIdle budget = none

/-- A phase leaves in the first cycle in which `cnt'` exceeds its threshold, in no other, and that cycle is always a
tick cycle (40_tick_source.md R109). -/
def Obligations.PhaseExitsWhenTheCountPassesTheThreshold : Prop :=
  ∀ (s t : State) (th : BitVec 16), FrameInv s → threshold s.st s.budget = some th →
    exec (decodeState s.st) s = .next t →
    (t.st ≠ s.st ↔ th.toNat < countAfter s) ∧ (t.st ≠ s.st → s.tick = true)

/-! ### The tick event -/

/-- TICK (40_tick_source.md R101, R102): `cnt` counts while `armed`, is frozen while not, and overflow is recorded;
nothing else changes, whatever the button bit. -/
def Obligations.TickRule : Prop :=
  ∀ (s : State) (b : Bool),
    (s.armed = true → s.cnt.toNat < 0xFFFF →
      exec (.tick b) s = .next { s with cnt := BitVec.ofNat 16 (s.cnt.toNat + 1) }) ∧
    (s.armed = false → exec (.tick b) s = .next s) ∧
    (s.armed = true → s.cnt.toNat = 0xFFFF → s.faults = [] →
      exec (.tick b) s = .next { s with faults := [.counterOverflow s.st] })

/-! ### The interface operations -/

/-- TMR_RESET, TMR_ARM and TMR_DISARM (43_external_interfaces.md R181 to R183): the record and the port form. That the
operation by itself writes the flag its rule names is the model's reading (log 13), and so is the countdown (log 5);
nothing else changes. -/
def Obligations.TimerOperationsRule : Prop :=
  ∀ (s : State) (p : BitVec 8),
    exec .tmrReset s =
      .next { s with effects := s.effects ++ [.tmrReset], tmrClr := true, tmrLeft := s.clkPerTick } ∧
    exec (.tmrArm p) s = .next { s with effects := s.effects ++ [.tmrArm p], armed := true, tmrEn := true } ∧
    exec .tmrDisarm s = .next { s with effects := s.effects ++ [.tmrDisarm], armed := false, tmrEn := false }

/-- PWM_DUTY (R185): `duty` becomes n, any n (log 12); the timer's period is not restarted and nothing else changes
(41_subcarrier_output.md R125). -/
def Obligations.PwmDutyRule : Prop :=
  ∀ (s : State) (n : BitVec 8),
    exec (.pwmDuty n) s = .next { s with effects := s.effects ++ [.pwmDuty n], duty := n }

/-- BTN_READ (R186) as a record carries its result: by itself it records it, whatever the pin's level, which is the
model's reading (log 25), and changes nothing else; NONE (30_encoding.md R77) changes nothing at all. -/
def Obligations.ButtonReadHasNoSideEffect : Prop :=
  ∀ (s : State) (r : Bool),
    exec (.btnRead r) s = .next { s with effects := s.effects ++ [.btnRead r] } ∧ exec .effNone s = .next s

/-! ### The micro-operations -/

/-- SET_GATE_ON and SET_GATE_OFF (41_subcarrier_output.md R121, R122): their encoding, what each emits and drives, and
when: in the exit cycles into a mark, and in those into a space that is not Idle. The `duty` output holds the gate level
the cycle leaves, in a cycle that raises a fault too, and those are exactly the cycles in which it changes (R123). -/
def Obligations.GateOperationsRule : Prop :=
  (encode .setGateOn = some (.effect 0b10001000110#11) ∧ encode .setGateOff = some (.effect 0b10000000000#11)) ∧
  (∀ s : State,
    exec .setGateOn s = .next { s with effects := s.effects ++ [.pwmDuty 70#8], duty := 70#8 } ∧
    exec .setGateOff s = .next { s with effects := s.effects ++ [.pwmDuty 0#8], duty := 0#8 }) ∧
  (∀ s t : State, exec (decodeState s.st) s = .next t → t.faults = [] →
    (Effect.pwmDuty 70#8 ∈ t.effects ↔ t.st ∈ [codeLdrOn, codeBitOn, codeStopOn, codeRptOn] ∧ t.st ≠ s.st) ∧
    (Effect.pwmDuty 0#8 ∈ t.effects ↔
      t.st ∈ [codeLdrOff, codeBit0Off, codeBit1Off, codeStopOff, codeRptOff] ∧ t.st ≠ s.st) ∧
    t.duty = (if gate t then 70#8 else 0#8)) ∧
  ∀ s t : State, s.duty = (if gate s then 70#8 else 0#8) → exec (decodeState s.st) s = .next t →
    t.duty = (if gate t then 70#8 else 0#8) ∧ ((∃ n, Effect.pwmDuty n ∈ t.effects) ↔ t.duty ≠ s.duty)

/-- ACCUMULATE_AND_RESET (40_tick_source.md R104). -/
def Obligations.AccumulateAndResetRule : Prop :=
  ∀ s : State,
    (s.acc.toNat + countAfter s ≤ 0xFFFF → exec .accumulateAndReset s =
      .next { s with acc := BitVec.ofNat 16 (s.acc.toNat + countAfter s), cnt := 0#16 }) ∧
    (countAfter s ≤ 0xFFFF → 0xFFFF < s.acc.toNat + countAfter s → s.faults = [] → exec .accumulateAndReset s =
      .next { s with faults := [.accOverflow s.st s.acc (cntNext s)] })

/-- CLOSE_FRAME (40_tick_source.md R106). -/
def Obligations.CloseFrameRule : Prop :=
  ∀ s : State,
    (s.acc.toNat + countAfter s ≤ 4095 → exec .closeFrame s =
      .next { s with
        budget := BitVec.ofNat 16 (4095 - (s.acc.toNat + countAfter s)), acc := 0#16, cnt := 0#16 }) ∧
    (countAfter s ≤ 0xFFFF → 4095 < s.acc.toNat + countAfter s → s.faults = [] → exec .closeFrame s =
      .next { s with faults := [.budgetUnderflow (s.acc.toNat + countAfter s)] })

/-- RESET_ONLY (40_tick_source.md R108): `acc` is not written. -/
def Obligations.ResetOnlyRule : Prop :=
  ∀ s : State, exec .resetOnly s = .next { s with cnt := 0#16 }

/-- STAY (42_protocol_encoder.md R142) by itself: `cnt` takes `cnt'` and nothing else changes. -/
def Obligations.StayRule : Prop :=
  ∀ s : State, countAfter s ≤ 0xFFFF → exec .stay s = .next { s with cnt := BitVec.ofNat 16 (countAfter s) }

/-- ENTER_BIT (R143), for every `cur`. -/
def Obligations.EnterBitRule : Prop :=
  ∀ s : State,
    (0 ≤ s.cur.toInt → exec .enterBit s = .next { s with
      curbit := s.dc.getLsbD s.cur.toInt.toNat, cur := s.cur - 1#6, st := codeBitOn
      effects := s.effects ++ [.pwmDuty 70#8], duty := 70#8 }) ∧
    (s.cur.toInt < 0 → s.faults = [] → exec .enterBit s = .next { s with faults := [.cursorRange s.cur] })

/-- TERMINATE (R156): `budget` and `curbit` keep their values and no PWM_DUTY is emitted. -/
def Obligations.TerminateRule : Prop :=
  ∀ s : State, exec .terminate s = .next { s with
    armed := false, tmrEn := false, effects := s.effects ++ [.tmrDisarm]
    cur := 31#6, acc := 0#16, cnt := 0#16, st := codeIdle }

/-! ### Reset, faults and the step -/

/-- The reset values the spec gives: the registers, the gate, `duty` and the fault record (10_state.md R35), and the
other two outputs, 0 in every cycle with `rst` = 1 (70_reset_and_hazards.md R230). -/
def Obligations.ResetStateIsTheSpecs : Prop :=
  State.reset.st = 0b0000#4 ∧ State.reset.cnt = 0#16 ∧ State.reset.acc = 0#16 ∧ State.reset.budget = 0#16 ∧
  State.reset.cur = 31#6 ∧ State.reset.curbit = false ∧ State.reset.armed = false ∧ gate State.reset = false ∧
  State.reset.duty = 0#8 ∧ State.reset.tmrEn = false ∧ State.reset.tmrClr = false ∧ State.reset.faults = []

/-- A cycle with `rst` = 1 (70_reset_and_hazards.md R230), in any state, faulted or not: every piece of the block's
state takes its reset value, the outputs are 0, no effect is emitted, DC is untouched, and the next cycle is Idle's. -/
def Obligations.ResetInputReloadsTheBlock : Prop :=
  ∀ s : State, s.rst = true → ∃ t, step s = .next t ∧
    t.st = codeIdle ∧ t.cnt = 0#16 ∧ t.acc = 0#16 ∧ t.budget = 0#16 ∧ t.cur = 31#6 ∧ t.curbit = false ∧
    t.armed = false ∧ t.faults = [] ∧ t.duty = 0#8 ∧ t.tmrEn = false ∧ t.tmrClr = false ∧ t.effects = [] ∧
    t.dc = s.dc ∧ decode (.state t.st) = .ok .idle

/-- A faulted block (60_exceptions.md R202): no register changes, `duty` and `tmr_en` hold, a `tmr_clr` that is down
stays down, no effect is emitted, and it stays faulted. That a `tmr_clr` that is up stays up is said by
StrobeIsUpAfterAnIdleExitAlone (log 16). -/
def Obligations.FaultedBlockIsStuck : Prop :=
  ∀ s : State, s.rst = false → s.faults ≠ [] → ∃ t, step s = .next t ∧
    t.st = s.st ∧ t.cnt = s.cnt ∧ t.acc = s.acc ∧ t.budget = s.budget ∧ t.cur = s.cur ∧ t.curbit = s.curbit ∧
    t.armed = s.armed ∧ t.dc = s.dc ∧ t.faults = s.faults ∧ t.duty = s.duty ∧ t.tmrEn = s.tmrEn ∧
    (s.tmrClr = false → t.tmrClr = false) ∧ t.effects = []

/-- A step runs the decoded operation: with `rst` low, no fault and nothing to replay, the operation that the STATE
word `st` decodes to, and then the environment moves (42_protocol_encoder.md R140). The environment's part is the
model's (log 5, 7, 9). -/
def Obligations.StepRunsTheStateRule : Prop :=
  ∀ (s : State) (i : Instr), s.rst = false → s.faults = [] → s.replay = [] → decode (.state s.st) = .ok i →
    ∃ t, exec i s = .next t ∧ step s = .next (advance s t)

/-- A record given to replay runs alone: step is exec of the operation it decodes to, on the state without it; a record
of no row is refused by name (30_encoding.md R77; the queue is the model's, log 10, 11). -/
def Obligations.StepReplaysEffectRecords : Prop :=
  ∀ (s : State) (rec : BitVec 11) (rest : List (BitVec 11)), s.rst = false → s.faults = [] → s.replay = rec :: rest →
    (∀ i, decode (.effect rec) = .ok i → step s = exec i { s with replay := rest }) ∧
    (∀ e, decode (.effect rec) = .error e → step s = .refused (.notAnEffectRecord rec))

/-- The gate wire of each code, and the `duty` output it gives (30_encoding.md R72; 41_subcarrier_output.md R120). -/
def Obligations.GateByStateCode : Prop :=
  (∀ s : State, gate s = s.st.getLsbD 0) ∧
  (∀ code ∈ [codeLdrOn, codeBitOn, codeStopOn, codeRptOn], gateOf code = true ∧ dutyFor (gateOf code) = 70#8) ∧
  (∀ code ∈ [codeLdrOff, codeBit0Off, codeBit1Off, codeStopOff, codeRptOff, codeIdle],
    gateOf code = false ∧ dutyFor (gateOf code) = 0#8)

/-- The duty ratios (41_subcarrier_output.md R126): n/210, 1/3 for 70 and 0 for 0, and the block emits no other n. -/
def Obligations.DutyRatioIsOneThird : Prop :=
  dutyRatio 70#8 = 1 / 3 ∧ dutyRatio 0#8 = 0 ∧ (∀ n : BitVec 8, dutyRatio n * 210 = n.toNat) ∧
  ∀ (s t : State) (n : BitVec 8), exec (decodeState s.st) s = .next t → Effect.pwmDuty n ∈ t.effects →
    n = 70#8 ∨ n = 0#8

/-! ### The invariant and what follows from it -/

/-- The reachable states' invariant holds at reset. -/
def Obligations.FrameInvAtReset : Prop := FrameInv State.reset

/-- Every step from a state that meets the invariant answers a next state that meets it, whatever the inputs: none of
the five faults is ever recorded (60_exceptions.md R201), `st` stays one of the ten codes, `cur` stays in -1 to 31. -/
def Obligations.StepKeepsFrameInv : Prop :=
  ∀ s : State, FrameInv s → ∃ t, step s = .next t ∧ FrameInv t

/-- `cnt'` never exceeds 3647; in a phase it is at most threshold + 1, which is at most 341 but in StopOff; in Idle it
is 0 (40_tick_source.md R111). -/
def Obligations.CountNeverExceedsThreeThousandSixHundredFortySeven : Prop :=
  ∀ s : State, FrameInv s →
    countAfter s ≤ 3647 ∧ (s.st ≠ codeStopOff → countAfter s ≤ 341) ∧
    (∀ th, threshold s.st s.budget = some th → countAfter s ≤ th.toNat + 1) ∧
    (s.st = codeIdle → s.cnt = 0#16 ∧ countAfter s = 0)

/-- S, the total CLOSE-FRAME takes (40_tick_source.md R112): 3286 - 43 z in a data frame, 449 in a repeat frame, and
what follows for `budget`, for the reference code and for `acc`. -/
def Obligations.FrameTotalClosedForm : Prop :=
  (∀ dc : BitVec 32, dataTotal dc + 43 * zeroBits dc = 3286 ∧ 1910 ≤ dataTotal dc ∧ dataTotal dc ≤ 3286) ∧
  dataTotal 0#32 = 1910 ∧ dataTotal 0xFFFFFFFF#32 = 3286 ∧ dataTotal 0x02FD48B7#32 = 2598 ∧ repeatTotal = 449 ∧
  (∀ s : State, FrameInv s → s.acc.toNat ≤ 3264) ∧
  ∀ s t : State, FrameInv s → s.st = codeStopOn → t.st = codeStopOff → exec .stopOn s = .next t →
    ((s.cur.toInt = -1 ∧ s.acc.toNat + countAfter s = dataTotal s.dc ∧
        809 ≤ t.budget.toNat ∧ t.budget.toNat ≤ 2185) ∨
      (s.cur = 31#6 ∧ s.acc.toNat + countAfter s = repeatTotal ∧ t.budget.toNat = 3646)) ∧
    s.acc.toNat + countAfter s + t.budget.toNat = 4095

/-- Every frame lasts 4096 ticks (40_tick_source.md R113): by its phase lengths, and in every run from a frame's start,
whose 4096th tick, and no earlier one, ends StopOff and starts the next frame or returns to Idle. -/
def Obligations.FramesLastFourThousandNinetySixTicks : Prop :=
  (∀ dc : BitVec 32, phaseTicks (dataFrame dc) = 4096) ∧ phaseTicks repeatFrame = 4096 ∧
  ∀ (s : State) (inputs : List (Bool × Bool)) (btnN : Bool), FrameInv s → s.st = codeLdrOn ∨ s.st = codeRptOn →
    s.cnt = 0#16 → tickCount inputs = 4095 →
    ∃ t u, runInputs inputs s = some t ∧ t.st = codeStopOff ∧
      runInputs (inputs ++ [(true, btnN)]) s = some u ∧ u.st = (if btnN then codeIdle else codeRptOn)

/-- A phase lasts threshold + 1 ticks (40_tick_source.md R110), however many cycles without a tick lie between and
whatever the button does: through threshold ticks it stays, and the next tick ends it with `cnt` = 0. -/
def Obligations.PhaseLastsThresholdPlusOneTicks : Prop :=
  ∀ (s : State) (th : BitVec 16) (inputs : List (Bool × Bool)), FrameInv s → s.cnt = 0#16 →
    threshold s.st s.budget = some th →
    (tickCount inputs ≤ th.toNat →
      ∃ t, runInputs inputs s = some t ∧ t.st = s.st ∧ t.cnt.toNat = tickCount inputs) ∧
    (tickCount inputs = th.toNat → ∀ btnN : Bool,
      ∃ t, runInputs (inputs ++ [(true, btnN)]) s = some t ∧ t.st ≠ s.st ∧ t.cnt = 0#16)

/-- The waveform (41_subcarrier_output.md R130; 42_protocol_encoder.md R160). From LeaderOn's entry, over any inputs
with 4096 ticks, the state at each tick is that of DeviceCode's data frame: LeaderOn 341 times, LeaderOff 171 times, then
the 32 bits most significant first, StopOn and StopOff; from RepeatOn's entry it is that of the repeat frame. The frames'
marks and spaces, and the output off in Idle until a press. -/
def Obligations.DataFrameIsTheNecWaveform : Prop :=
  (∀ (s : State) (inputs : List (Bool × Bool)), FrameInv s → s.cnt = 0#16 → tickCount inputs = 4096 →
    (s.st = codeLdrOn → tickTrace inputs s = codesAtTicks (dataFrame s.dc)) ∧
    (s.st = codeRptOn → tickTrace inputs s = codesAtTicks repeatFrame)) ∧
  (∀ dc : BitVec 32, waveform (dataFrame dc) =
    [.mark 341, .space 171]
      ++ (List.range 32).flatMap (fun k => [.mark 22, .space (if dc.getLsbD (31 - k) then 64 else 21)])
      ++ [.mark 22, .space (4095 - dataTotal dc + 1)]) ∧
  waveform repeatFrame = [.mark 341, .space 86, .mark 22, .space 3647] ∧
  ∀ s : State, FrameInv s → s.st = codeIdle → s.duty = 0#8 ∧
    (s.btnN = true → ∃ t, exec .idle s = .next t ∧ t.st = codeIdle ∧ t.duty = 0#8)

/-- A repeat frame is RepeatOn 341, RepeatOff 86, StopOn 22, StopOff 3647 ticks, and while the button is asserted at
every StopOff exit, the tick cycles 4096 j, the same frame follows, for ever (42_protocol_encoder.md R161). The button is
any in every other cycle, and at the last exit. -/
def Obligations.RepeatFrameIsTheRepeatCode : Prop :=
  ∀ (s : State) (inputs : List (Bool × Bool)) (k : Nat), FrameInv s → s.st = codeRptOn → s.cnt = 0#16 →
    tickCount inputs = 4096 * k → (∀ j, 1 ≤ j → j < k → buttonAtTick (4096 * j) inputs = some false) →
    tickTrace inputs s = (List.replicate k (codesAtTicks
      [(codeRptOn, 341), (codeRptOff, 86), (codeStopOn, 22), (codeStopOff, 3647)])).flatten

/-- The button is sampled in a transmission exactly in the tick cycles 4096 k, and the sample alone decides what
follows (42_protocol_encoder.md R163). `tickNo` is the model's count of R84's ticks (log 9). -/
def Obligations.ButtonIsSampledEveryFourThousandNinetySixTicks : Prop :=
  ∀ s t : State, FrameInv s → s.rst = false → s.st ≠ codeIdle → step s = .next t →
    ((∃ r, Effect.btnRead r ∈ t.effects) ↔ (s.tick = true ∧ t.tickNo % 4096 = 0)) ∧
    (s.tick = true → t.tickNo % 4096 = 0 →
      t.st = (if s.btnN then codeIdle else codeRptOn) ∧ t.effects.head? = some (.btnRead (!s.btnN)))

/-- At most one transition a cycle (42_protocol_encoder.md R158): a state is entered with `cnt` = 0, and no phase exits
in the cycle after its entry. -/
def Obligations.NoPhaseExitsInTheCycleAfterItsEntry : Prop :=
  ∀ (s t u : State) (tick btnN : Bool), FrameInv s → step s = .next t → t.st ≠ s.st → t.st ≠ codeIdle →
    t.cnt = 0#16 ∧ (step (present tick btnN t) = .next u → u.st = t.st)

/-! ### Whole-machine rules -/

/-- The button is read in every cycle in Idle and in StopOff's exit cycle, and nowhere else: in every other state and
cycle a machine with the other button level does the same (42_protocol_encoder.md R155). -/
def Obligations.ButtonIsIgnoredElsewhere : Prop :=
  ∀ s t : State, exec (decodeState s.st) s = .next t →
    (s.faults = [] → t.faults = [] → ∀ r : Bool, (Effect.btnRead r ∈ t.effects ↔
      r = !s.btnN ∧ (s.st = codeIdle ∨ (s.st = codeStopOff ∧ s.budget.toNat < countAfter s)))) ∧
    ∀ b : Bool, s.st ≠ codeIdle → (s.st = codeStopOff → countAfter s ≤ s.budget.toNat) →
      exec (decodeState s.st) { s with btnN := b } = .next { t with btnN := b }

/-- No step writes DeviceCode (10_state.md R29), nor CLK_PER_TICK, which the model holds as a field of State (log 4). -/
def Obligations.NoStepWritesTheConstants : Prop :=
  ∀ s t : State, step s = .next t → t.dc = s.dc ∧ t.clkPerTick = s.clkPerTick

/-- Each register of the table of 10_state.md R37 is written by no other operation than those its row leads to; `armed`
is the flag that TMR_ARM and TMR_DISARM write by themselves too (log 13), and TICK by itself writes `cnt` (log 19). -/
def Obligations.OnlyTheNamedRulesWriteARegister : Prop :=
  ∀ (i : Instr) (s t : State), exec i s = .next t →
    (i ∉ [.stopOn, .closeFrame] → t.budget = s.budget) ∧
    (i ∉ [.ldrOff, .bit0Off, .bit1Off, .enterBit] → t.curbit = s.curbit) ∧
    (i ∉ [.idle, .stopOff, .ldrOff, .bit0Off, .bit1Off, .enterBit, .terminate] → t.cur = s.cur) ∧
    (i ∉ [.idle, .stopOff, .terminate, .tmrDisarm] → (∀ p, i ≠ .tmrArm p) → t.armed = s.armed) ∧
    ((i.format = .effect ∨ i.format = .input ∨ isReserved i ∨
        i ∈ [.setGateOn, .setGateOff, .accumulateAndReset, .closeFrame, .resetOnly, .stay]) → t.st = s.st) ∧
    ((i.format = .effect ∨ i.format = .input ∨ isReserved i ∨
        i ∈ [.setGateOn, .setGateOff, .resetOnly, .stay, .enterBit]) → t.acc = s.acc) ∧
    ((i.format = .effect ∨ isReserved i ∨ i ∈ [.setGateOn, .setGateOff, .enterBit]) → t.cnt = s.cnt) ∧
    t.dc = s.dc

/-- The transitions are those of the state table, and each flips the gate but StopOff to Idle
(41_subcarrier_output.md R124). -/
def Obligations.TransitionsFlipTheGate : Prop :=
  ∀ s t : State, exec (decodeState s.st) s = .next t → t.st ≠ s.st →
    (s.st, t.st) ∈ [(codeIdle, codeLdrOn), (codeLdrOn, codeLdrOff), (codeBitOn, codeBit0Off), (codeBitOn, codeBit1Off),
      (codeStopOn, codeStopOff), (codeRptOn, codeRptOff), (codeLdrOff, codeBitOn), (codeBit0Off, codeBitOn),
      (codeBit0Off, codeStopOn), (codeBit1Off, codeBitOn), (codeBit1Off, codeStopOn), (codeStopOff, codeRptOn),
      (codeRptOff, codeStopOn), (codeStopOff, codeIdle)] ∧
    (gate t = gate s ↔ s.st = codeStopOff ∧ t.st = codeIdle)

/-- The effects of a cycle come in the order of 43_external_interfaces.md R187: a cycle's list is one of these seven,
and only an Idle or StopOff exit emits more than one. -/
def Obligations.EffectsComeInTheirOrder : Prop :=
  ∀ (i : Instr) (s t : State), i.format = .state → exec i s = .next t →
    t.effects ∈ [[], [.btnRead false], [.btnRead true, .tmrReset, .tmrArm 210#8, .pwmDuty 70#8],
      [.btnRead true, .pwmDuty 70#8], [.btnRead false, .tmrDisarm], [.pwmDuty 0#8], [.pwmDuty 70#8]] ∧
    (1 < t.effects.length →
      (i = .idle ∧ t.effects = [.btnRead true, .tmrReset, .tmrArm 210#8, .pwmDuty 70#8]) ∨
      (i = .stopOff ∧ t.effects ∈ [[.btnRead true, .pwmDuty 70#8], [.btnRead false, .tmrDisarm]]))

/-- The port view and the effect view agree (30_encoding.md R76; 41_subcarrier_output.md R123): a cycle's effects move
`duty` and `tmr_en` from their old levels, and `tmr_clr` from down, whatever it was (log 15), to the new levels;
PWM_DUTY is emitted exactly when `duty` changes. -/
def Obligations.EffectsMoveThePorts : Prop :=
  ∀ s t : State, portsAgree s → s.faults = [] → exec (decodeState s.st) s = .next t → t.faults = [] →
    t.effects.foldl portsAfter (s.duty, s.tmrEn, false) = (t.duty, t.tmrEn, t.tmrClr) ∧
    ((∃ n, Effect.pwmDuty n ∈ t.effects) ↔ t.duty ≠ s.duty) ∧ portsAgree t

/-- The fault record only grows but for `rst` (10_state.md R31). -/
def Obligations.FaultRecordOnlyGrows : Prop :=
  (∀ (i : Instr) (s t : State) (f : Fault), exec i s = .next t → f ∈ s.faults → f ∈ t.faults) ∧
  ∀ (s t : State) (f : Fault), s.rst = false → step s = .next t → f ∈ s.faults → f ∈ t.faults

/-- No step ends in a fault outcome: a fault is a record of State, and a faulted block's cycles answer next states too,
which is the model's reading (log 1). A step is refused only on a record given to replay (30_encoding.md R77): the block
takes a step in every cycle (60_exceptions.md R216). -/
def Obligations.StepsAreNeverStopped : Prop :=
  ∀ s : State, (∀ f, step s ≠ .fault f) ∧ (s.replay = [] → ∃ t, step s = .next t)

/-! ### The environment -/

/-- The timer keeps its contract (40_tick_source.md R100 item 3): in every state a cycle leads to, `tick` = 1 only
while `tmr_en` = 1. The timer is the model's (log 5). -/
def Obligations.TicksComeOnlyWhileEnabled : Prop :=
  ∀ s t : State, TimerInv s → s.replay = [] → step s = .next t → TimerInv t

/-- The first tick comes CLK_PER_TICK cycles after the Idle exit (40_tick_source.md R115): the input of cycle n + 1,
the Idle exit being cycle 1, has `tick` = 1 first for n = CLK_PER_TICK. Stated of runs under a script, which holds
`rst` low; the timer is the model's (log 5). -/
def Obligations.FirstTickComesOnePeriodAfterArming : Prop :=
  ∀ (s : State) (events : List ButtonEvent) (n : Nat), FrameInv s → s.st = codeIdle → s.rst = false →
    s.btnN = false → s.button = .script events → 1 ≤ n → n ≤ s.clkPerTick →
    ∃ t, Host.Core.run core n s = .next t ∧ t.st = codeLdrOn ∧ t.cnt = 0#16 ∧ t.tick = decide (n = s.clkPerTick)

/-- A script line takes effect in the tick cycle it names, wherever it stands among the pending lines, and the button
keeps its value while no line is due (30_encoding.md R84). Of the lines due in one cycle the one with the latest t
governs, and of two with one t the one that stands later, which is the model's choice (log 8). -/
def Obligations.ScriptLineActsInItsTickCycle : Prop :=
  (∀ (s t : State) (e : ButtonEvent) (before behind : List ButtonEvent), t.button = .script (before ++ e :: behind) →
    e.at_ ≤ tickNoComing s t →
    (∀ d ∈ before, d.at_ ≤ tickNoComing s t → d.at_ ≤ e.at_) →
    (∀ d ∈ behind, d.at_ ≤ tickNoComing s t → d.at_ < e.at_) →
    (advance s t).btnN = !e.pressed ∧
    (advance s t).button = .script ((before ++ behind).filter fun d => decide (tickNoComing s t < d.at_))) ∧
  ∀ (s t : State) (events : List ButtonEvent), t.button = .script events → (∀ d ∈ events, tickNoComing s t < d.at_) →
    (advance s t).btnN = t.btnN ∧ (advance s t).button = .script events

/-! ### The end of a run -/

/-- The end of a run (70_reset_and_hazards.md R244, R245): a step that ends a transmission is StopOff's exit by
TERMINATE, never a reset cycle or a cycle of a faulted block; and a quiescent state stays in Idle with the outputs off
while the button stays released. -/
def Obligations.TransmissionsEndByTerminateAlone : Prop :=
  (∀ s t : State, step s = .next t → transmissionEnded s t = true →
    s.rst = false ∧ s.faults = [] ∧ t.faults = [] ∧ s.st = codeStopOff ∧ s.budget.toNat < countAfter s ∧
    s.btnN = true ∧ t.st = codeIdle ∧ t.armed = false ∧ t.effects = [.btnRead false, .tmrDisarm]) ∧
  ∀ s : State, FrameInv s → quiescent s → s.rst = false →
    ∃ t, step s = .next t ∧ t.st = codeIdle ∧ t.cnt = s.cnt ∧ t.duty = 0#8 ∧ t.tmrEn = false ∧
      t.effects = [.btnRead false] ∧ transmissionEnded s t = false ∧ (t.btnN = true → quiescent t)
end

