-- ==== Sys2Proof/Laws/State.lean ====
section
/-! SUPPORT. One lemma per field of State per shared update of Machine/Ops.lean and Machine/Environment.lean, so that no
proof unfolds a record update. -/

namespace Sys2Proof.Laws

open Sys2Proof.Machine

/-! ### raiseFault -/

@[simp] theorem raiseFault_st (f : Fault) (s : State) : (raiseFault f s).st = s.st := rfl
@[simp] theorem raiseFault_cnt (f : Fault) (s : State) : (raiseFault f s).cnt = s.cnt := rfl
@[simp] theorem raiseFault_acc (f : Fault) (s : State) : (raiseFault f s).acc = s.acc := rfl
@[simp] theorem raiseFault_budget (f : Fault) (s : State) : (raiseFault f s).budget = s.budget := rfl
@[simp] theorem raiseFault_cur (f : Fault) (s : State) : (raiseFault f s).cur = s.cur := rfl
@[simp] theorem raiseFault_curbit (f : Fault) (s : State) : (raiseFault f s).curbit = s.curbit := rfl
@[simp] theorem raiseFault_armed (f : Fault) (s : State) : (raiseFault f s).armed = s.armed := rfl
@[simp] theorem raiseFault_dc (f : Fault) (s : State) : (raiseFault f s).dc = s.dc := rfl
@[simp] theorem raiseFault_faults (f : Fault) (s : State) : (raiseFault f s).faults = recordFault s.faults f := rfl
@[simp] theorem raiseFault_duty (f : Fault) (s : State) : (raiseFault f s).duty = s.duty := rfl
@[simp] theorem raiseFault_tmrEn (f : Fault) (s : State) : (raiseFault f s).tmrEn = s.tmrEn := rfl
@[simp] theorem raiseFault_tmrClr (f : Fault) (s : State) : (raiseFault f s).tmrClr = s.tmrClr := rfl
@[simp] theorem raiseFault_effects (f : Fault) (s : State) : (raiseFault f s).effects = s.effects := rfl
@[simp] theorem raiseFault_rst (f : Fault) (s : State) : (raiseFault f s).rst = s.rst := rfl
@[simp] theorem raiseFault_tick (f : Fault) (s : State) : (raiseFault f s).tick = s.tick := rfl
@[simp] theorem raiseFault_btnN (f : Fault) (s : State) : (raiseFault f s).btnN = s.btnN := rfl
@[simp] theorem raiseFault_clkPerTick (f : Fault) (s : State) : (raiseFault f s).clkPerTick = s.clkPerTick := rfl
@[simp] theorem raiseFault_tmrLeft (f : Fault) (s : State) : (raiseFault f s).tmrLeft = s.tmrLeft := rfl
@[simp] theorem raiseFault_tickNo (f : Fault) (s : State) : (raiseFault f s).tickNo = s.tickNo := rfl
@[simp] theorem raiseFault_button (f : Fault) (s : State) : (raiseFault f s).button = s.button := rfl
@[simp] theorem raiseFault_cycle (f : Fault) (s : State) : (raiseFault f s).cycle = s.cycle := rfl
@[simp] theorem raiseFault_replay (f : Fault) (s : State) : (raiseFault f s).replay = s.replay := rfl

/-! ### beginCycle -/

@[simp] theorem beginCycle_st (s : State) : (beginCycle s).st = s.st := rfl
@[simp] theorem beginCycle_cnt (s : State) : (beginCycle s).cnt = s.cnt := rfl
@[simp] theorem beginCycle_acc (s : State) : (beginCycle s).acc = s.acc := rfl
@[simp] theorem beginCycle_budget (s : State) : (beginCycle s).budget = s.budget := rfl
@[simp] theorem beginCycle_cur (s : State) : (beginCycle s).cur = s.cur := rfl
@[simp] theorem beginCycle_curbit (s : State) : (beginCycle s).curbit = s.curbit := rfl
@[simp] theorem beginCycle_armed (s : State) : (beginCycle s).armed = s.armed := rfl
@[simp] theorem beginCycle_dc (s : State) : (beginCycle s).dc = s.dc := rfl
@[simp] theorem beginCycle_faults (s : State) : (beginCycle s).faults = s.faults := rfl
@[simp] theorem beginCycle_duty (s : State) : (beginCycle s).duty = s.duty := rfl
@[simp] theorem beginCycle_tmrEn (s : State) : (beginCycle s).tmrEn = s.tmrEn := rfl
@[simp] theorem beginCycle_tmrClr (s : State) : (beginCycle s).tmrClr = false := rfl
@[simp] theorem beginCycle_effects (s : State) : (beginCycle s).effects = [] := rfl
@[simp] theorem beginCycle_rst (s : State) : (beginCycle s).rst = s.rst := rfl
@[simp] theorem beginCycle_tick (s : State) : (beginCycle s).tick = s.tick := rfl
@[simp] theorem beginCycle_btnN (s : State) : (beginCycle s).btnN = s.btnN := rfl
@[simp] theorem beginCycle_clkPerTick (s : State) : (beginCycle s).clkPerTick = s.clkPerTick := rfl
@[simp] theorem beginCycle_tmrLeft (s : State) : (beginCycle s).tmrLeft = s.tmrLeft := rfl
@[simp] theorem beginCycle_tickNo (s : State) : (beginCycle s).tickNo = s.tickNo := rfl
@[simp] theorem beginCycle_button (s : State) : (beginCycle s).button = s.button := rfl
@[simp] theorem beginCycle_cycle (s : State) : (beginCycle s).cycle = s.cycle := rfl
@[simp] theorem beginCycle_replay (s : State) : (beginCycle s).replay = s.replay := rfl

/-! ### driveOutputs -/

@[simp] theorem driveOutputs_st (s : State) : (driveOutputs s).st = s.st := rfl
@[simp] theorem driveOutputs_cnt (s : State) : (driveOutputs s).cnt = s.cnt := rfl
@[simp] theorem driveOutputs_acc (s : State) : (driveOutputs s).acc = s.acc := rfl
@[simp] theorem driveOutputs_budget (s : State) : (driveOutputs s).budget = s.budget := rfl
@[simp] theorem driveOutputs_cur (s : State) : (driveOutputs s).cur = s.cur := rfl
@[simp] theorem driveOutputs_curbit (s : State) : (driveOutputs s).curbit = s.curbit := rfl
@[simp] theorem driveOutputs_armed (s : State) : (driveOutputs s).armed = s.armed := rfl
@[simp] theorem driveOutputs_dc (s : State) : (driveOutputs s).dc = s.dc := rfl
@[simp] theorem driveOutputs_faults (s : State) : (driveOutputs s).faults = s.faults := rfl
@[simp] theorem driveOutputs_duty (s : State) : (driveOutputs s).duty = dutyFor (gate s) := rfl
@[simp] theorem driveOutputs_tmrEn (s : State) : (driveOutputs s).tmrEn = s.armed := rfl
@[simp] theorem driveOutputs_tmrClr (s : State) : (driveOutputs s).tmrClr = s.tmrClr := rfl
@[simp] theorem driveOutputs_effects (s : State) : (driveOutputs s).effects = s.effects := rfl
@[simp] theorem driveOutputs_rst (s : State) : (driveOutputs s).rst = s.rst := rfl
@[simp] theorem driveOutputs_tick (s : State) : (driveOutputs s).tick = s.tick := rfl
@[simp] theorem driveOutputs_btnN (s : State) : (driveOutputs s).btnN = s.btnN := rfl
@[simp] theorem driveOutputs_clkPerTick (s : State) : (driveOutputs s).clkPerTick = s.clkPerTick := rfl
@[simp] theorem driveOutputs_tmrLeft (s : State) : (driveOutputs s).tmrLeft = s.tmrLeft := rfl
@[simp] theorem driveOutputs_tickNo (s : State) : (driveOutputs s).tickNo = s.tickNo := rfl
@[simp] theorem driveOutputs_button (s : State) : (driveOutputs s).button = s.button := rfl
@[simp] theorem driveOutputs_cycle (s : State) : (driveOutputs s).cycle = s.cycle := rfl
@[simp] theorem driveOutputs_replay (s : State) : (driveOutputs s).replay = s.replay := rfl

/-! ### stayWith -/

@[simp] theorem stayWith_st (c : BitVec 17) (s : State) : (stayWith c s).st = s.st := rfl
@[simp] theorem stayWith_cnt (c : BitVec 17) (s : State) : (stayWith c s).cnt = c.setWidth 16 := rfl
@[simp] theorem stayWith_acc (c : BitVec 17) (s : State) : (stayWith c s).acc = s.acc := rfl
@[simp] theorem stayWith_budget (c : BitVec 17) (s : State) : (stayWith c s).budget = s.budget := rfl
@[simp] theorem stayWith_cur (c : BitVec 17) (s : State) : (stayWith c s).cur = s.cur := rfl
@[simp] theorem stayWith_curbit (c : BitVec 17) (s : State) : (stayWith c s).curbit = s.curbit := rfl
@[simp] theorem stayWith_armed (c : BitVec 17) (s : State) : (stayWith c s).armed = s.armed := rfl
@[simp] theorem stayWith_dc (c : BitVec 17) (s : State) : (stayWith c s).dc = s.dc := rfl
@[simp] theorem stayWith_faults (c : BitVec 17) (s : State) : (stayWith c s).faults = s.faults := rfl
@[simp] theorem stayWith_duty (c : BitVec 17) (s : State) : (stayWith c s).duty = s.duty := rfl
@[simp] theorem stayWith_tmrEn (c : BitVec 17) (s : State) : (stayWith c s).tmrEn = s.tmrEn := rfl
@[simp] theorem stayWith_tmrClr (c : BitVec 17) (s : State) : (stayWith c s).tmrClr = s.tmrClr := rfl
@[simp] theorem stayWith_effects (c : BitVec 17) (s : State) : (stayWith c s).effects = s.effects := rfl
@[simp] theorem stayWith_rst (c : BitVec 17) (s : State) : (stayWith c s).rst = s.rst := rfl
@[simp] theorem stayWith_tick (c : BitVec 17) (s : State) : (stayWith c s).tick = s.tick := rfl
@[simp] theorem stayWith_btnN (c : BitVec 17) (s : State) : (stayWith c s).btnN = s.btnN := rfl
@[simp] theorem stayWith_clkPerTick (c : BitVec 17) (s : State) : (stayWith c s).clkPerTick = s.clkPerTick := rfl
@[simp] theorem stayWith_tmrLeft (c : BitVec 17) (s : State) : (stayWith c s).tmrLeft = s.tmrLeft := rfl
@[simp] theorem stayWith_tickNo (c : BitVec 17) (s : State) : (stayWith c s).tickNo = s.tickNo := rfl
@[simp] theorem stayWith_button (c : BitVec 17) (s : State) : (stayWith c s).button = s.button := rfl
@[simp] theorem stayWith_cycle (c : BitVec 17) (s : State) : (stayWith c s).cycle = s.cycle := rfl
@[simp] theorem stayWith_replay (c : BitVec 17) (s : State) : (stayWith c s).replay = s.replay := rfl

/-! ### clearCount -/

@[simp] theorem clearCount_st (s : State) : (clearCount s).st = s.st := rfl
@[simp] theorem clearCount_cnt (s : State) : (clearCount s).cnt = 0#16 := rfl
@[simp] theorem clearCount_acc (s : State) : (clearCount s).acc = s.acc := rfl
@[simp] theorem clearCount_budget (s : State) : (clearCount s).budget = s.budget := rfl
@[simp] theorem clearCount_cur (s : State) : (clearCount s).cur = s.cur := rfl
@[simp] theorem clearCount_curbit (s : State) : (clearCount s).curbit = s.curbit := rfl
@[simp] theorem clearCount_armed (s : State) : (clearCount s).armed = s.armed := rfl
@[simp] theorem clearCount_dc (s : State) : (clearCount s).dc = s.dc := rfl
@[simp] theorem clearCount_faults (s : State) : (clearCount s).faults = s.faults := rfl
@[simp] theorem clearCount_duty (s : State) : (clearCount s).duty = s.duty := rfl
@[simp] theorem clearCount_tmrEn (s : State) : (clearCount s).tmrEn = s.tmrEn := rfl
@[simp] theorem clearCount_tmrClr (s : State) : (clearCount s).tmrClr = s.tmrClr := rfl
@[simp] theorem clearCount_effects (s : State) : (clearCount s).effects = s.effects := rfl
@[simp] theorem clearCount_rst (s : State) : (clearCount s).rst = s.rst := rfl
@[simp] theorem clearCount_tick (s : State) : (clearCount s).tick = s.tick := rfl
@[simp] theorem clearCount_btnN (s : State) : (clearCount s).btnN = s.btnN := rfl
@[simp] theorem clearCount_clkPerTick (s : State) : (clearCount s).clkPerTick = s.clkPerTick := rfl
@[simp] theorem clearCount_tmrLeft (s : State) : (clearCount s).tmrLeft = s.tmrLeft := rfl
@[simp] theorem clearCount_tickNo (s : State) : (clearCount s).tickNo = s.tickNo := rfl
@[simp] theorem clearCount_button (s : State) : (clearCount s).button = s.button := rfl
@[simp] theorem clearCount_cycle (s : State) : (clearCount s).cycle = s.cycle := rfl
@[simp] theorem clearCount_replay (s : State) : (clearCount s).replay = s.replay := rfl

/-! ### holdBlock -/

@[simp] theorem holdBlock_st (s : State) : (holdBlock s).st = s.st := rfl
@[simp] theorem holdBlock_cnt (s : State) : (holdBlock s).cnt = s.cnt := rfl
@[simp] theorem holdBlock_acc (s : State) : (holdBlock s).acc = s.acc := rfl
@[simp] theorem holdBlock_budget (s : State) : (holdBlock s).budget = s.budget := rfl
@[simp] theorem holdBlock_cur (s : State) : (holdBlock s).cur = s.cur := rfl
@[simp] theorem holdBlock_curbit (s : State) : (holdBlock s).curbit = s.curbit := rfl
@[simp] theorem holdBlock_armed (s : State) : (holdBlock s).armed = s.armed := rfl
@[simp] theorem holdBlock_dc (s : State) : (holdBlock s).dc = s.dc := rfl
@[simp] theorem holdBlock_faults (s : State) : (holdBlock s).faults = s.faults := rfl
@[simp] theorem holdBlock_duty (s : State) : (holdBlock s).duty = s.duty := rfl
@[simp] theorem holdBlock_tmrEn (s : State) : (holdBlock s).tmrEn = s.tmrEn := rfl
@[simp] theorem holdBlock_tmrClr (s : State) : (holdBlock s).tmrClr = s.tmrClr := rfl
@[simp] theorem holdBlock_effects (s : State) : (holdBlock s).effects = [] := rfl
@[simp] theorem holdBlock_rst (s : State) : (holdBlock s).rst = s.rst := rfl
@[simp] theorem holdBlock_tick (s : State) : (holdBlock s).tick = s.tick := rfl
@[simp] theorem holdBlock_btnN (s : State) : (holdBlock s).btnN = s.btnN := rfl
@[simp] theorem holdBlock_clkPerTick (s : State) : (holdBlock s).clkPerTick = s.clkPerTick := rfl
@[simp] theorem holdBlock_tmrLeft (s : State) : (holdBlock s).tmrLeft = s.tmrLeft := rfl
@[simp] theorem holdBlock_tickNo (s : State) : (holdBlock s).tickNo = s.tickNo := rfl
@[simp] theorem holdBlock_button (s : State) : (holdBlock s).button = s.button := rfl
@[simp] theorem holdBlock_cycle (s : State) : (holdBlock s).cycle = s.cycle := rfl
@[simp] theorem holdBlock_replay (s : State) : (holdBlock s).replay = s.replay := rfl

/-! ### resetBlock -/

@[simp] theorem resetBlock_st (s : State) : (resetBlock s).st = codeIdle := rfl
@[simp] theorem resetBlock_cnt (s : State) : (resetBlock s).cnt = 0#16 := rfl
@[simp] theorem resetBlock_acc (s : State) : (resetBlock s).acc = 0#16 := rfl
@[simp] theorem resetBlock_budget (s : State) : (resetBlock s).budget = 0#16 := rfl
@[simp] theorem resetBlock_cur (s : State) : (resetBlock s).cur = cursorStart := rfl
@[simp] theorem resetBlock_curbit (s : State) : (resetBlock s).curbit = false := rfl
@[simp] theorem resetBlock_armed (s : State) : (resetBlock s).armed = false := rfl
@[simp] theorem resetBlock_dc (s : State) : (resetBlock s).dc = s.dc := rfl
@[simp] theorem resetBlock_faults (s : State) : (resetBlock s).faults = [] := rfl
@[simp] theorem resetBlock_duty (s : State) : (resetBlock s).duty = dutyOff := rfl
@[simp] theorem resetBlock_tmrEn (s : State) : (resetBlock s).tmrEn = false := rfl
@[simp] theorem resetBlock_tmrClr (s : State) : (resetBlock s).tmrClr = false := rfl
@[simp] theorem resetBlock_effects (s : State) : (resetBlock s).effects = [] := rfl
@[simp] theorem resetBlock_rst (s : State) : (resetBlock s).rst = s.rst := rfl
@[simp] theorem resetBlock_tick (s : State) : (resetBlock s).tick = s.tick := rfl
@[simp] theorem resetBlock_btnN (s : State) : (resetBlock s).btnN = s.btnN := rfl
@[simp] theorem resetBlock_clkPerTick (s : State) : (resetBlock s).clkPerTick = s.clkPerTick := rfl
@[simp] theorem resetBlock_tmrLeft (s : State) : (resetBlock s).tmrLeft = s.tmrLeft := rfl
@[simp] theorem resetBlock_tickNo (s : State) : (resetBlock s).tickNo = s.tickNo := rfl
@[simp] theorem resetBlock_button (s : State) : (resetBlock s).button = s.button := rfl
@[simp] theorem resetBlock_cycle (s : State) : (resetBlock s).cycle = s.cycle := rfl
@[simp] theorem resetBlock_replay (s : State) : (resetBlock s).replay = s.replay := rfl

/-! ### emit_tmrReset -/

@[simp] theorem emit_tmrReset_st (s : State) : (emit .tmrReset s).st = s.st := rfl
@[simp] theorem emit_tmrReset_cnt (s : State) : (emit .tmrReset s).cnt = s.cnt := rfl
@[simp] theorem emit_tmrReset_acc (s : State) : (emit .tmrReset s).acc = s.acc := rfl
@[simp] theorem emit_tmrReset_budget (s : State) : (emit .tmrReset s).budget = s.budget := rfl
@[simp] theorem emit_tmrReset_cur (s : State) : (emit .tmrReset s).cur = s.cur := rfl
@[simp] theorem emit_tmrReset_curbit (s : State) : (emit .tmrReset s).curbit = s.curbit := rfl
@[simp] theorem emit_tmrReset_armed (s : State) : (emit .tmrReset s).armed = s.armed := rfl
@[simp] theorem emit_tmrReset_dc (s : State) : (emit .tmrReset s).dc = s.dc := rfl
@[simp] theorem emit_tmrReset_faults (s : State) : (emit .tmrReset s).faults = s.faults := rfl
@[simp] theorem emit_tmrReset_duty (s : State) : (emit .tmrReset s).duty = s.duty := rfl
@[simp] theorem emit_tmrReset_tmrEn (s : State) : (emit .tmrReset s).tmrEn = s.tmrEn := rfl
@[simp] theorem emit_tmrReset_tmrClr (s : State) : (emit .tmrReset s).tmrClr = true := rfl
@[simp] theorem emit_tmrReset_effects (s : State) : (emit .tmrReset s).effects = s.effects ++ [.tmrReset] := rfl
@[simp] theorem emit_tmrReset_rst (s : State) : (emit .tmrReset s).rst = s.rst := rfl
@[simp] theorem emit_tmrReset_tick (s : State) : (emit .tmrReset s).tick = s.tick := rfl
@[simp] theorem emit_tmrReset_btnN (s : State) : (emit .tmrReset s).btnN = s.btnN := rfl
@[simp] theorem emit_tmrReset_clkPerTick (s : State) : (emit .tmrReset s).clkPerTick = s.clkPerTick := rfl
@[simp] theorem emit_tmrReset_tmrLeft (s : State) : (emit .tmrReset s).tmrLeft = s.clkPerTick := rfl
@[simp] theorem emit_tmrReset_tickNo (s : State) : (emit .tmrReset s).tickNo = s.tickNo := rfl
@[simp] theorem emit_tmrReset_button (s : State) : (emit .tmrReset s).button = s.button := rfl
@[simp] theorem emit_tmrReset_cycle (s : State) : (emit .tmrReset s).cycle = s.cycle := rfl
@[simp] theorem emit_tmrReset_replay (s : State) : (emit .tmrReset s).replay = s.replay := rfl

/-! ### armTimer -/

@[simp] theorem armTimer_st (p : BitVec 8) (s : State) : (armTimer p s).st = s.st := rfl
@[simp] theorem armTimer_cnt (p : BitVec 8) (s : State) : (armTimer p s).cnt = s.cnt := rfl
@[simp] theorem armTimer_acc (p : BitVec 8) (s : State) : (armTimer p s).acc = s.acc := rfl
@[simp] theorem armTimer_budget (p : BitVec 8) (s : State) : (armTimer p s).budget = s.budget := rfl
@[simp] theorem armTimer_cur (p : BitVec 8) (s : State) : (armTimer p s).cur = s.cur := rfl
@[simp] theorem armTimer_curbit (p : BitVec 8) (s : State) : (armTimer p s).curbit = s.curbit := rfl
@[simp] theorem armTimer_armed (p : BitVec 8) (s : State) : (armTimer p s).armed = true := rfl
@[simp] theorem armTimer_dc (p : BitVec 8) (s : State) : (armTimer p s).dc = s.dc := rfl
@[simp] theorem armTimer_faults (p : BitVec 8) (s : State) : (armTimer p s).faults = s.faults := rfl
@[simp] theorem armTimer_duty (p : BitVec 8) (s : State) : (armTimer p s).duty = s.duty := rfl
@[simp] theorem armTimer_tmrEn (p : BitVec 8) (s : State) : (armTimer p s).tmrEn = true := rfl
@[simp] theorem armTimer_tmrClr (p : BitVec 8) (s : State) : (armTimer p s).tmrClr = s.tmrClr := rfl
@[simp] theorem armTimer_effects (p : BitVec 8) (s : State) : (armTimer p s).effects = s.effects ++ [.tmrArm p] := rfl
@[simp] theorem armTimer_rst (p : BitVec 8) (s : State) : (armTimer p s).rst = s.rst := rfl
@[simp] theorem armTimer_tick (p : BitVec 8) (s : State) : (armTimer p s).tick = s.tick := rfl
@[simp] theorem armTimer_btnN (p : BitVec 8) (s : State) : (armTimer p s).btnN = s.btnN := rfl
@[simp] theorem armTimer_clkPerTick (p : BitVec 8) (s : State) : (armTimer p s).clkPerTick = s.clkPerTick := rfl
@[simp] theorem armTimer_tmrLeft (p : BitVec 8) (s : State) : (armTimer p s).tmrLeft = s.tmrLeft := rfl
@[simp] theorem armTimer_tickNo (p : BitVec 8) (s : State) : (armTimer p s).tickNo = s.tickNo := rfl
@[simp] theorem armTimer_button (p : BitVec 8) (s : State) : (armTimer p s).button = s.button := rfl
@[simp] theorem armTimer_cycle (p : BitVec 8) (s : State) : (armTimer p s).cycle = s.cycle := rfl
@[simp] theorem armTimer_replay (p : BitVec 8) (s : State) : (armTimer p s).replay = s.replay := rfl

/-! ### disarmTimer -/

@[simp] theorem disarmTimer_st (s : State) : (disarmTimer s).st = s.st := rfl
@[simp] theorem disarmTimer_cnt (s : State) : (disarmTimer s).cnt = s.cnt := rfl
@[simp] theorem disarmTimer_acc (s : State) : (disarmTimer s).acc = s.acc := rfl
@[simp] theorem disarmTimer_budget (s : State) : (disarmTimer s).budget = s.budget := rfl
@[simp] theorem disarmTimer_cur (s : State) : (disarmTimer s).cur = s.cur := rfl
@[simp] theorem disarmTimer_curbit (s : State) : (disarmTimer s).curbit = s.curbit := rfl
@[simp] theorem disarmTimer_armed (s : State) : (disarmTimer s).armed = false := rfl
@[simp] theorem disarmTimer_dc (s : State) : (disarmTimer s).dc = s.dc := rfl
@[simp] theorem disarmTimer_faults (s : State) : (disarmTimer s).faults = s.faults := rfl
@[simp] theorem disarmTimer_duty (s : State) : (disarmTimer s).duty = s.duty := rfl
@[simp] theorem disarmTimer_tmrEn (s : State) : (disarmTimer s).tmrEn = false := rfl
@[simp] theorem disarmTimer_tmrClr (s : State) : (disarmTimer s).tmrClr = s.tmrClr := rfl
@[simp] theorem disarmTimer_effects (s : State) : (disarmTimer s).effects = s.effects ++ [.tmrDisarm] := rfl
@[simp] theorem disarmTimer_rst (s : State) : (disarmTimer s).rst = s.rst := rfl
@[simp] theorem disarmTimer_tick (s : State) : (disarmTimer s).tick = s.tick := rfl
@[simp] theorem disarmTimer_btnN (s : State) : (disarmTimer s).btnN = s.btnN := rfl
@[simp] theorem disarmTimer_clkPerTick (s : State) : (disarmTimer s).clkPerTick = s.clkPerTick := rfl
@[simp] theorem disarmTimer_tmrLeft (s : State) : (disarmTimer s).tmrLeft = s.tmrLeft := rfl
@[simp] theorem disarmTimer_tickNo (s : State) : (disarmTimer s).tickNo = s.tickNo := rfl
@[simp] theorem disarmTimer_button (s : State) : (disarmTimer s).button = s.button := rfl
@[simp] theorem disarmTimer_cycle (s : State) : (disarmTimer s).cycle = s.cycle := rfl
@[simp] theorem disarmTimer_replay (s : State) : (disarmTimer s).replay = s.replay := rfl

/-! ### emit_pwmDuty -/

@[simp] theorem emit_pwmDuty_st (n : BitVec 8) (s : State) : (emit (.pwmDuty n) s).st = s.st := rfl
@[simp] theorem emit_pwmDuty_cnt (n : BitVec 8) (s : State) : (emit (.pwmDuty n) s).cnt = s.cnt := rfl
@[simp] theorem emit_pwmDuty_acc (n : BitVec 8) (s : State) : (emit (.pwmDuty n) s).acc = s.acc := rfl
@[simp] theorem emit_pwmDuty_budget (n : BitVec 8) (s : State) : (emit (.pwmDuty n) s).budget = s.budget := rfl
@[simp] theorem emit_pwmDuty_cur (n : BitVec 8) (s : State) : (emit (.pwmDuty n) s).cur = s.cur := rfl
@[simp] theorem emit_pwmDuty_curbit (n : BitVec 8) (s : State) : (emit (.pwmDuty n) s).curbit = s.curbit := rfl
@[simp] theorem emit_pwmDuty_armed (n : BitVec 8) (s : State) : (emit (.pwmDuty n) s).armed = s.armed := rfl
@[simp] theorem emit_pwmDuty_dc (n : BitVec 8) (s : State) : (emit (.pwmDuty n) s).dc = s.dc := rfl
@[simp] theorem emit_pwmDuty_faults (n : BitVec 8) (s : State) : (emit (.pwmDuty n) s).faults = s.faults := rfl
@[simp] theorem emit_pwmDuty_duty (n : BitVec 8) (s : State) : (emit (.pwmDuty n) s).duty = n := rfl
@[simp] theorem emit_pwmDuty_tmrEn (n : BitVec 8) (s : State) : (emit (.pwmDuty n) s).tmrEn = s.tmrEn := rfl
@[simp] theorem emit_pwmDuty_tmrClr (n : BitVec 8) (s : State) : (emit (.pwmDuty n) s).tmrClr = s.tmrClr := rfl
@[simp] theorem emit_pwmDuty_effects (n : BitVec 8) (s : State) :
    (emit (.pwmDuty n) s).effects = s.effects ++ [.pwmDuty n] := rfl
@[simp] theorem emit_pwmDuty_rst (n : BitVec 8) (s : State) : (emit (.pwmDuty n) s).rst = s.rst := rfl
@[simp] theorem emit_pwmDuty_tick (n : BitVec 8) (s : State) : (emit (.pwmDuty n) s).tick = s.tick := rfl
@[simp] theorem emit_pwmDuty_btnN (n : BitVec 8) (s : State) : (emit (.pwmDuty n) s).btnN = s.btnN := rfl
@[simp] theorem emit_pwmDuty_clkPerTick (n : BitVec 8) (s : State) :
    (emit (.pwmDuty n) s).clkPerTick = s.clkPerTick := rfl
@[simp] theorem emit_pwmDuty_tmrLeft (n : BitVec 8) (s : State) : (emit (.pwmDuty n) s).tmrLeft = s.tmrLeft := rfl
@[simp] theorem emit_pwmDuty_tickNo (n : BitVec 8) (s : State) : (emit (.pwmDuty n) s).tickNo = s.tickNo := rfl
@[simp] theorem emit_pwmDuty_button (n : BitVec 8) (s : State) : (emit (.pwmDuty n) s).button = s.button := rfl
@[simp] theorem emit_pwmDuty_cycle (n : BitVec 8) (s : State) : (emit (.pwmDuty n) s).cycle = s.cycle := rfl
@[simp] theorem emit_pwmDuty_replay (n : BitVec 8) (s : State) : (emit (.pwmDuty n) s).replay = s.replay := rfl

/-! ### emit_btnRead -/

@[simp] theorem emit_btnRead_st (r : Bool) (s : State) : (emit (.btnRead r) s).st = s.st := rfl
@[simp] theorem emit_btnRead_cnt (r : Bool) (s : State) : (emit (.btnRead r) s).cnt = s.cnt := rfl
@[simp] theorem emit_btnRead_acc (r : Bool) (s : State) : (emit (.btnRead r) s).acc = s.acc := rfl
@[simp] theorem emit_btnRead_budget (r : Bool) (s : State) : (emit (.btnRead r) s).budget = s.budget := rfl
@[simp] theorem emit_btnRead_cur (r : Bool) (s : State) : (emit (.btnRead r) s).cur = s.cur := rfl
@[simp] theorem emit_btnRead_curbit (r : Bool) (s : State) : (emit (.btnRead r) s).curbit = s.curbit := rfl
@[simp] theorem emit_btnRead_armed (r : Bool) (s : State) : (emit (.btnRead r) s).armed = s.armed := rfl
@[simp] theorem emit_btnRead_dc (r : Bool) (s : State) : (emit (.btnRead r) s).dc = s.dc := rfl
@[simp] theorem emit_btnRead_faults (r : Bool) (s : State) : (emit (.btnRead r) s).faults = s.faults := rfl
@[simp] theorem emit_btnRead_duty (r : Bool) (s : State) : (emit (.btnRead r) s).duty = s.duty := rfl
@[simp] theorem emit_btnRead_tmrEn (r : Bool) (s : State) : (emit (.btnRead r) s).tmrEn = s.tmrEn := rfl
@[simp] theorem emit_btnRead_tmrClr (r : Bool) (s : State) : (emit (.btnRead r) s).tmrClr = s.tmrClr := rfl
@[simp] theorem emit_btnRead_effects (r : Bool) (s : State) :
    (emit (.btnRead r) s).effects = s.effects ++ [.btnRead r] := rfl
@[simp] theorem emit_btnRead_rst (r : Bool) (s : State) : (emit (.btnRead r) s).rst = s.rst := rfl
@[simp] theorem emit_btnRead_tick (r : Bool) (s : State) : (emit (.btnRead r) s).tick = s.tick := rfl
@[simp] theorem emit_btnRead_btnN (r : Bool) (s : State) : (emit (.btnRead r) s).btnN = s.btnN := rfl
@[simp] theorem emit_btnRead_clkPerTick (r : Bool) (s : State) :
    (emit (.btnRead r) s).clkPerTick = s.clkPerTick := rfl
@[simp] theorem emit_btnRead_tmrLeft (r : Bool) (s : State) : (emit (.btnRead r) s).tmrLeft = s.tmrLeft := rfl
@[simp] theorem emit_btnRead_tickNo (r : Bool) (s : State) : (emit (.btnRead r) s).tickNo = s.tickNo := rfl
@[simp] theorem emit_btnRead_button (r : Bool) (s : State) : (emit (.btnRead r) s).button = s.button := rfl
@[simp] theorem emit_btnRead_cycle (r : Bool) (s : State) : (emit (.btnRead r) s).cycle = s.cycle := rfl
@[simp] theorem emit_btnRead_replay (r : Bool) (s : State) : (emit (.btnRead r) s).replay = s.replay := rfl

/-! ### gateOn -/

@[simp] theorem gateOn_st (s : State) : (gateOn s).st = s.st := rfl
@[simp] theorem gateOn_cnt (s : State) : (gateOn s).cnt = s.cnt := rfl
@[simp] theorem gateOn_acc (s : State) : (gateOn s).acc = s.acc := rfl
@[simp] theorem gateOn_budget (s : State) : (gateOn s).budget = s.budget := rfl
@[simp] theorem gateOn_cur (s : State) : (gateOn s).cur = s.cur := rfl
@[simp] theorem gateOn_curbit (s : State) : (gateOn s).curbit = s.curbit := rfl
@[simp] theorem gateOn_armed (s : State) : (gateOn s).armed = s.armed := rfl
@[simp] theorem gateOn_dc (s : State) : (gateOn s).dc = s.dc := rfl
@[simp] theorem gateOn_faults (s : State) : (gateOn s).faults = s.faults := rfl
@[simp] theorem gateOn_duty (s : State) : (gateOn s).duty = dutyOn := rfl
@[simp] theorem gateOn_tmrEn (s : State) : (gateOn s).tmrEn = s.tmrEn := rfl
@[simp] theorem gateOn_tmrClr (s : State) : (gateOn s).tmrClr = s.tmrClr := rfl
@[simp] theorem gateOn_effects (s : State) : (gateOn s).effects = s.effects ++ [.pwmDuty dutyOn] := rfl
@[simp] theorem gateOn_rst (s : State) : (gateOn s).rst = s.rst := rfl
@[simp] theorem gateOn_tick (s : State) : (gateOn s).tick = s.tick := rfl
@[simp] theorem gateOn_btnN (s : State) : (gateOn s).btnN = s.btnN := rfl
@[simp] theorem gateOn_clkPerTick (s : State) : (gateOn s).clkPerTick = s.clkPerTick := rfl
@[simp] theorem gateOn_tmrLeft (s : State) : (gateOn s).tmrLeft = s.tmrLeft := rfl
@[simp] theorem gateOn_tickNo (s : State) : (gateOn s).tickNo = s.tickNo := rfl
@[simp] theorem gateOn_button (s : State) : (gateOn s).button = s.button := rfl
@[simp] theorem gateOn_cycle (s : State) : (gateOn s).cycle = s.cycle := rfl
@[simp] theorem gateOn_replay (s : State) : (gateOn s).replay = s.replay := rfl

/-! ### gateOff -/

@[simp] theorem gateOff_st (s : State) : (gateOff s).st = s.st := rfl
@[simp] theorem gateOff_cnt (s : State) : (gateOff s).cnt = s.cnt := rfl
@[simp] theorem gateOff_acc (s : State) : (gateOff s).acc = s.acc := rfl
@[simp] theorem gateOff_budget (s : State) : (gateOff s).budget = s.budget := rfl
@[simp] theorem gateOff_cur (s : State) : (gateOff s).cur = s.cur := rfl
@[simp] theorem gateOff_curbit (s : State) : (gateOff s).curbit = s.curbit := rfl
@[simp] theorem gateOff_armed (s : State) : (gateOff s).armed = s.armed := rfl
@[simp] theorem gateOff_dc (s : State) : (gateOff s).dc = s.dc := rfl
@[simp] theorem gateOff_faults (s : State) : (gateOff s).faults = s.faults := rfl
@[simp] theorem gateOff_duty (s : State) : (gateOff s).duty = dutyOff := rfl
@[simp] theorem gateOff_tmrEn (s : State) : (gateOff s).tmrEn = s.tmrEn := rfl
@[simp] theorem gateOff_tmrClr (s : State) : (gateOff s).tmrClr = s.tmrClr := rfl
@[simp] theorem gateOff_effects (s : State) : (gateOff s).effects = s.effects ++ [.pwmDuty dutyOff] := rfl
@[simp] theorem gateOff_rst (s : State) : (gateOff s).rst = s.rst := rfl
@[simp] theorem gateOff_tick (s : State) : (gateOff s).tick = s.tick := rfl
@[simp] theorem gateOff_btnN (s : State) : (gateOff s).btnN = s.btnN := rfl
@[simp] theorem gateOff_clkPerTick (s : State) : (gateOff s).clkPerTick = s.clkPerTick := rfl
@[simp] theorem gateOff_tmrLeft (s : State) : (gateOff s).tmrLeft = s.tmrLeft := rfl
@[simp] theorem gateOff_tickNo (s : State) : (gateOff s).tickNo = s.tickNo := rfl
@[simp] theorem gateOff_button (s : State) : (gateOff s).button = s.button := rfl
@[simp] theorem gateOff_cycle (s : State) : (gateOff s).cycle = s.cycle := rfl
@[simp] theorem gateOff_replay (s : State) : (gateOff s).replay = s.replay := rfl

/-! ### readButton -/

@[simp] theorem readButton_st (s : State) : (readButton s).st = s.st := rfl
@[simp] theorem readButton_cnt (s : State) : (readButton s).cnt = s.cnt := rfl
@[simp] theorem readButton_acc (s : State) : (readButton s).acc = s.acc := rfl
@[simp] theorem readButton_budget (s : State) : (readButton s).budget = s.budget := rfl
@[simp] theorem readButton_cur (s : State) : (readButton s).cur = s.cur := rfl
@[simp] theorem readButton_curbit (s : State) : (readButton s).curbit = s.curbit := rfl
@[simp] theorem readButton_armed (s : State) : (readButton s).armed = s.armed := rfl
@[simp] theorem readButton_dc (s : State) : (readButton s).dc = s.dc := rfl
@[simp] theorem readButton_faults (s : State) : (readButton s).faults = s.faults := rfl
@[simp] theorem readButton_duty (s : State) : (readButton s).duty = s.duty := rfl
@[simp] theorem readButton_tmrEn (s : State) : (readButton s).tmrEn = s.tmrEn := rfl
@[simp] theorem readButton_tmrClr (s : State) : (readButton s).tmrClr = s.tmrClr := rfl
@[simp] theorem readButton_effects (s : State) : (readButton s).effects = s.effects ++ [.btnRead (btn s)] := rfl
@[simp] theorem readButton_rst (s : State) : (readButton s).rst = s.rst := rfl
@[simp] theorem readButton_tick (s : State) : (readButton s).tick = s.tick := rfl
@[simp] theorem readButton_btnN (s : State) : (readButton s).btnN = s.btnN := rfl
@[simp] theorem readButton_clkPerTick (s : State) : (readButton s).clkPerTick = s.clkPerTick := rfl
@[simp] theorem readButton_tmrLeft (s : State) : (readButton s).tmrLeft = s.tmrLeft := rfl
@[simp] theorem readButton_tickNo (s : State) : (readButton s).tickNo = s.tickNo := rfl
@[simp] theorem readButton_button (s : State) : (readButton s).button = s.button := rfl
@[simp] theorem readButton_cycle (s : State) : (readButton s).cycle = s.cycle := rfl
@[simp] theorem readButton_replay (s : State) : (readButton s).replay = s.replay := rfl

/-! ### endTransmission -/

@[simp] theorem endTransmission_st (s : State) : (endTransmission s).st = codeIdle := rfl
@[simp] theorem endTransmission_cnt (s : State) : (endTransmission s).cnt = 0#16 := rfl
@[simp] theorem endTransmission_acc (s : State) : (endTransmission s).acc = 0#16 := rfl
@[simp] theorem endTransmission_budget (s : State) : (endTransmission s).budget = s.budget := rfl
@[simp] theorem endTransmission_cur (s : State) : (endTransmission s).cur = cursorStart := rfl
@[simp] theorem endTransmission_curbit (s : State) : (endTransmission s).curbit = s.curbit := rfl
@[simp] theorem endTransmission_armed (s : State) : (endTransmission s).armed = false := rfl
@[simp] theorem endTransmission_dc (s : State) : (endTransmission s).dc = s.dc := rfl
@[simp] theorem endTransmission_faults (s : State) : (endTransmission s).faults = s.faults := rfl
@[simp] theorem endTransmission_duty (s : State) : (endTransmission s).duty = s.duty := rfl
@[simp] theorem endTransmission_tmrEn (s : State) : (endTransmission s).tmrEn = false := rfl
@[simp] theorem endTransmission_tmrClr (s : State) : (endTransmission s).tmrClr = s.tmrClr := rfl
@[simp] theorem endTransmission_effects (s : State) : (endTransmission s).effects = s.effects ++ [.tmrDisarm] := rfl
@[simp] theorem endTransmission_rst (s : State) : (endTransmission s).rst = s.rst := rfl
@[simp] theorem endTransmission_tick (s : State) : (endTransmission s).tick = s.tick := rfl
@[simp] theorem endTransmission_btnN (s : State) : (endTransmission s).btnN = s.btnN := rfl
@[simp] theorem endTransmission_clkPerTick (s : State) : (endTransmission s).clkPerTick = s.clkPerTick := rfl
@[simp] theorem endTransmission_tmrLeft (s : State) : (endTransmission s).tmrLeft = s.tmrLeft := rfl
@[simp] theorem endTransmission_tickNo (s : State) : (endTransmission s).tickNo = s.tickNo := rfl
@[simp] theorem endTransmission_button (s : State) : (endTransmission s).button = s.button := rfl
@[simp] theorem endTransmission_cycle (s : State) : (endTransmission s).cycle = s.cycle := rfl
@[simp] theorem endTransmission_replay (s : State) : (endTransmission s).replay = s.replay := rfl

/-! ### startTransmission -/

@[simp] theorem startTransmission_st (s : State) : (startTransmission s).st = codeLdrOn := rfl
@[simp] theorem startTransmission_cnt (s : State) : (startTransmission s).cnt = 0#16 := rfl
@[simp] theorem startTransmission_acc (s : State) : (startTransmission s).acc = 0#16 := rfl
@[simp] theorem startTransmission_budget (s : State) : (startTransmission s).budget = s.budget := rfl
@[simp] theorem startTransmission_cur (s : State) : (startTransmission s).cur = cursorStart := rfl
@[simp] theorem startTransmission_curbit (s : State) : (startTransmission s).curbit = s.curbit := rfl
@[simp] theorem startTransmission_armed (s : State) : (startTransmission s).armed = true := rfl
@[simp] theorem startTransmission_dc (s : State) : (startTransmission s).dc = s.dc := rfl
@[simp] theorem startTransmission_faults (s : State) : (startTransmission s).faults = s.faults := rfl
@[simp] theorem startTransmission_duty (s : State) : (startTransmission s).duty = dutyOn := rfl
@[simp] theorem startTransmission_tmrEn (s : State) : (startTransmission s).tmrEn = true := rfl
@[simp] theorem startTransmission_tmrClr (s : State) : (startTransmission s).tmrClr = true := rfl
@[simp] theorem startTransmission_effects (s : State) :
    (startTransmission s).effects = ((s.effects ++ [.tmrReset]) ++ [.tmrArm Config.pwmPeriodTicks]) ++ [.pwmDuty dutyOn] := rfl
@[simp] theorem startTransmission_rst (s : State) : (startTransmission s).rst = s.rst := rfl
@[simp] theorem startTransmission_tick (s : State) : (startTransmission s).tick = s.tick := rfl
@[simp] theorem startTransmission_btnN (s : State) : (startTransmission s).btnN = s.btnN := rfl
@[simp] theorem startTransmission_clkPerTick (s : State) : (startTransmission s).clkPerTick = s.clkPerTick := rfl
@[simp] theorem startTransmission_tmrLeft (s : State) : (startTransmission s).tmrLeft = s.clkPerTick := rfl
@[simp] theorem startTransmission_tickNo (s : State) : (startTransmission s).tickNo = s.tickNo := rfl
@[simp] theorem startTransmission_button (s : State) : (startTransmission s).button = s.button := rfl
@[simp] theorem startTransmission_cycle (s : State) : (startTransmission s).cycle = s.cycle := rfl
@[simp] theorem startTransmission_replay (s : State) : (startTransmission s).replay = s.replay := rfl

/-! ### settleButton -/

@[simp] theorem settleButton_st (s : State) : (settleButton s).st = s.st := rfl
@[simp] theorem settleButton_cnt (s : State) : (settleButton s).cnt = s.cnt := rfl
@[simp] theorem settleButton_acc (s : State) : (settleButton s).acc = s.acc := rfl
@[simp] theorem settleButton_budget (s : State) : (settleButton s).budget = s.budget := rfl
@[simp] theorem settleButton_cur (s : State) : (settleButton s).cur = s.cur := rfl
@[simp] theorem settleButton_curbit (s : State) : (settleButton s).curbit = s.curbit := rfl
@[simp] theorem settleButton_armed (s : State) : (settleButton s).armed = s.armed := rfl
@[simp] theorem settleButton_dc (s : State) : (settleButton s).dc = s.dc := rfl
@[simp] theorem settleButton_faults (s : State) : (settleButton s).faults = s.faults := rfl
@[simp] theorem settleButton_duty (s : State) : (settleButton s).duty = s.duty := rfl
@[simp] theorem settleButton_tmrEn (s : State) : (settleButton s).tmrEn = s.tmrEn := rfl
@[simp] theorem settleButton_tmrClr (s : State) : (settleButton s).tmrClr = s.tmrClr := rfl
@[simp] theorem settleButton_effects (s : State) : (settleButton s).effects = s.effects := rfl
@[simp] theorem settleButton_rst (s : State) : (settleButton s).rst = false := rfl
@[simp] theorem settleButton_tick (s : State) : (settleButton s).tick = s.tick := rfl
@[simp] theorem settleButton_btnN (s : State) :
    (settleButton s).btnN = (dueEvents (tickNoOfCycle s) s.btnN (pendingEvents s)).1 := rfl
@[simp] theorem settleButton_clkPerTick (s : State) : (settleButton s).clkPerTick = s.clkPerTick := rfl
@[simp] theorem settleButton_tmrLeft (s : State) : (settleButton s).tmrLeft = s.tmrLeft := rfl
@[simp] theorem settleButton_tickNo (s : State) : (settleButton s).tickNo = s.tickNo := rfl
@[simp] theorem settleButton_button (s : State) :
    (settleButton s).button = .script (dueEvents (tickNoOfCycle s) s.btnN (pendingEvents s)).2 := rfl
@[simp] theorem settleButton_cycle (s : State) : (settleButton s).cycle = s.cycle := rfl
@[simp] theorem settleButton_replay (s : State) : (settleButton s).replay = s.replay := rfl

/-! ### advance -/

@[simp] theorem advance_st (s t : State) : (advance s t).st = t.st := rfl
@[simp] theorem advance_cnt (s t : State) : (advance s t).cnt = t.cnt := rfl
@[simp] theorem advance_acc (s t : State) : (advance s t).acc = t.acc := rfl
@[simp] theorem advance_budget (s t : State) : (advance s t).budget = t.budget := rfl
@[simp] theorem advance_cur (s t : State) : (advance s t).cur = t.cur := rfl
@[simp] theorem advance_curbit (s t : State) : (advance s t).curbit = t.curbit := rfl
@[simp] theorem advance_armed (s t : State) : (advance s t).armed = t.armed := rfl
@[simp] theorem advance_dc (s t : State) : (advance s t).dc = t.dc := rfl
@[simp] theorem advance_faults (s t : State) : (advance s t).faults = t.faults := rfl
@[simp] theorem advance_duty (s t : State) : (advance s t).duty = t.duty := rfl
@[simp] theorem advance_tmrEn (s t : State) : (advance s t).tmrEn = t.tmrEn := rfl
@[simp] theorem advance_tmrClr (s t : State) : (advance s t).tmrClr = t.tmrClr := rfl
@[simp] theorem advance_effects (s t : State) : (advance s t).effects = t.effects := rfl
@[simp] theorem advance_rst (s t : State) : (advance s t).rst = nextReset t := rfl
@[simp] theorem advance_tick (s t : State) : (advance s t).tick = nextTick t := rfl
@[simp] theorem advance_btnN (s t : State) : (advance s t).btnN = (nextButton (tickNoComing s t) t).1 := rfl
@[simp] theorem advance_clkPerTick (s t : State) : (advance s t).clkPerTick = t.clkPerTick := rfl
@[simp] theorem advance_tmrLeft (s t : State) : (advance s t).tmrLeft = nextLeft t := rfl
@[simp] theorem advance_tickNo (s t : State) : (advance s t).tickNo = tickNoAfter s t := rfl
@[simp] theorem advance_button (s t : State) : (advance s t).button = (nextButton (tickNoComing s t) t).2 := rfl
@[simp] theorem advance_cycle (s t : State) : (advance s t).cycle = t.cycle + 1 := rfl
@[simp] theorem advance_replay (s t : State) : (advance s t).replay = t.replay := rfl

end Sys2Proof.Laws
end

