-- ==== Sys2Proof/Laws/Ops.lean ====
section
/-! SUPPORT. Once for each shared operation, everything it can do. -/

namespace Sys2Proof.Laws

open Sys2Proof.Machine Sys2Proof.Safety
open Host (Outcome)

/-! ### Wires -/

theorem countTick_toNat (armed tick : Bool) (cnt : BitVec 16) :
    (countTick armed tick cnt).toNat = cnt.toNat + if armed && tick then 1 else 0 := by
  have h := cnt.isLt
  unfold countTick
  split
  · rw [BitVec.toNat_add, BitVec.toNat_setWidth]
    simp only [BitVec.toNat_ofNat]
    omega
  · rw [BitVec.toNat_setWidth]
    omega

/-- `cnt'` is the exact count. -/
theorem cntNext_toNat (s : State) : (cntNext s).toNat = countAfter s :=
  countTick_toNat s.armed s.tick s.cnt

theorem countAfter_le (s : State) : countAfter s ≤ s.cnt.toNat + 1 := by
  unfold countAfter
  split <;> omega

theorem countAfter_of_not_armed {s : State} (h : s.armed = false) : countAfter s = s.cnt.toNat := by
  simp [countAfter, h]

theorem overflows_eq_true (c : BitVec 17) : overflows c = true ↔ 0xFFFF < c.toNat := by
  simp [overflows]

theorem overflows_eq_false (c : BitVec 17) : overflows c = false ↔ c.toNat ≤ 0xFFFF := by
  simp [overflows]

theorem exceeds_eq_true (c : BitVec 17) (th : BitVec 16) : exceeds c th = true ↔ th.toNat < c.toNat := by
  simp [exceeds]

theorem exceeds_eq_false (c : BitVec 17) (th : BitVec 16) : exceeds c th = false ↔ c.toNat ≤ th.toNat := by
  simp [exceeds]

theorem faulted_eq_false {s : State} : faulted s = false ↔ s.faults = [] := by
  simp [faulted]

theorem faulted_eq_true {s : State} : faulted s = true ↔ s.faults ≠ [] := by
  simp [faulted]

/-- The low 16 bits of `cnt'` are the count's. -/
theorem setWidth_cntNext (s : State) :
    (cntNext s).setWidth 16 = BitVec.ofNat 16 (countAfter s) := by
  apply BitVec.eq_of_toNat_eq
  rw [BitVec.toNat_setWidth, cntNext_toNat, BitVec.toNat_ofNat]

/-! ### The fault record -/

theorem recordFault_nil (f : Fault) : recordFault [] f = [f] := by
  simp [recordFault]

/-- A kind once recorded stays recorded. -/
theorem mem_recordFault_of_mem {fs : List Fault} {f g : Fault} (h : g ∈ fs) : g ∈ recordFault fs f := by
  unfold recordFault
  split
  · exact h
  · exact List.mem_append_left _ h

theorem recordFault_ne_nil (fs : List Fault) (f : Fault) : recordFault fs f ≠ [] := by
  unfold recordFault
  split
  · rintro rfl
    simp at *
  · simp

/-! ### Parts of a cycle -/

@[simp] theorem orRaise_ok (s t : State) : orRaise s (.ok t) = .next t := rfl

@[simp] theorem orRaise_error (s : State) (f : Fault) : orRaise s (.error f) = .next (raiseFault f s) := rfl

/-- A part of a cycle always answers a next state. -/
theorem orRaise_next (s : State) (r : Except Fault State) : ∃ t, orRaise s r = .next t := by
  cases r <;> exact ⟨_, rfl⟩

theorem withTick_of_le {s : State} (k : BitVec 17 → Except Fault State) (h : countAfter s ≤ 0xFFFF) :
    withTick s k = k (cntNext s) := by
  have hc : overflows (cntNext s) = false := (overflows_eq_false _).2 (by rw [cntNext_toNat]; exact h)
  simp [withTick, hc]

theorem withTick_of_lt {s : State} (k : BitVec 17 → Except Fault State) (h : 0xFFFF < countAfter s) :
    withTick s k = .error (.counterOverflow s.st) := by
  have hc : overflows (cntNext s) = true := (overflows_eq_true _).2 (by rw [cntNext_toNat]; exact h)
  simp [withTick, hc]

theorem accumulate_of_le {c : BitVec 17} {s : State} (h : s.acc.toNat + c.toNat ≤ 0xFFFF) :
    accumulate c s = .ok { s with acc := BitVec.ofNat 16 (s.acc.toNat + c.toNat), cnt := 0#16 } := by
  have hn : ¬ 0xFFFF < s.acc.toNat + c.toNat := by omega
  simp [accumulate, frameTotal, hn]

theorem accumulate_of_lt {c : BitVec 17} {s : State} (h : 0xFFFF < s.acc.toNat + c.toNat) :
    accumulate c s = .error (.accOverflow s.st s.acc c) := by
  simp [accumulate, frameTotal, h]

theorem closeWith_of_le {c : BitVec 17} {s : State} (h : s.acc.toNat + c.toNat ≤ 4095) :
    closeWith c s =
      .ok { s with budget := BitVec.ofNat 16 (4095 - (s.acc.toNat + c.toNat)), acc := 0#16, cnt := 0#16 } := by
  have hn : ¬ 4095 < s.acc.toNat + c.toNat := by omega
  simp [closeWith, frameTotal, framePeriods, hn]

theorem closeWith_of_lt {c : BitVec 17} {s : State} (h : 4095 < s.acc.toNat + c.toNat) :
    closeWith c s = .error (.budgetUnderflow (s.acc.toNat + c.toNat)) := by
  simp [closeWith, frameTotal, framePeriods, h]

theorem dcBit_of_nonneg (dc : BitVec 32) (cur : BitVec 6) (h : 0 ≤ cur.toInt) :
    dcBit dc cur.toInt = some (dc.getLsbD cur.toInt.toNat) := by
  have hl : cur.toInt < 32 := by
    have := BitVec.toInt_lt (x := cur)
    simpa using this
  have h31 : cur.toInt ≤ 31 := by omega
  simp [dcBit, h, h31]

theorem dcBit_of_neg (dc : BitVec 32) (cur : BitVec 6) (h : cur.toInt < 0) : dcBit dc cur.toInt = none := by
  have hn : ¬ 0 ≤ cur.toInt := by omega
  simp [dcBit, hn]

theorem startBit_of_nonneg {s : State} (h : 0 ≤ s.cur.toInt) :
    startBit s =
      .ok (gateOn { s with curbit := s.dc.getLsbD s.cur.toInt.toNat, cur := s.cur - 1#6, st := codeBitOn }) := by
  simp [startBit, dcBit_of_nonneg _ _ h]

theorem startBit_of_neg {s : State} (h : s.cur.toInt < 0) : startBit s = .error (.cursorRange s.cur) := by
  simp [startBit, dcBit_of_neg _ _ h]

/-! ### A clock cycle -/

/-- A cycle of a state rule always answers a next state. -/
theorem blockCycle_next (rule : BitVec 17 → State → Except Fault State) (s : State) :
    ∃ t, blockCycle rule s = .next t :=
  orRaise_next _ _

theorem blockCycle_overflow (rule : BitVec 17 → State → Except Fault State) {s : State}
    (h : 0xFFFF < countAfter s) :
    blockCycle rule s = .next (raiseFault (.counterOverflow s.st) { s with effects := [] }) := by
  simp [blockCycle, withTick_of_lt _ h, Except.map]

theorem blockCycle_ok {rule : BitVec 17 → State → Except Fault State} {s t : State}
    (h : countAfter s ≤ 0xFFFF) (hr : rule (cntNext s) (beginCycle s) = .ok t) :
    blockCycle rule s = .next (driveOutputs t) := by
  simp [blockCycle, withTick_of_le _ h, hr, Except.map]

theorem blockCycle_error {rule : BitVec 17 → State → Except Fault State} {s : State} {f : Fault}
    (h : countAfter s ≤ 0xFFFF) (hr : rule (cntNext s) (beginCycle s) = .error f) :
    blockCycle rule s = .next (raiseFault f { s with effects := [] }) := by
  simp [blockCycle, withTick_of_le _ h, hr, Except.map]

/-- Everything a cycle can do: the rule's next state with the outputs driven, or a fault recorded and nothing else. -/
theorem blockCycle_cases {rule : BitVec 17 → State → Except Fault State} {s u : State}
    (h : blockCycle rule s = .next u) :
    (∃ t, countAfter s ≤ 0xFFFF ∧ rule (cntNext s) (beginCycle s) = .ok t ∧ u = driveOutputs t) ∨
      ∃ f, u = raiseFault f { s with effects := [] } := by
  by_cases hc : countAfter s ≤ 0xFFFF
  · cases hr : rule (cntNext s) (beginCycle s) with
    | ok t =>
      rw [blockCycle_ok hc hr] at h
      cases h
      exact .inl ⟨t, hc, rfl, rfl⟩
    | error f =>
      rw [blockCycle_error hc hr] at h
      cases h
      exact .inr ⟨f, rfl⟩
  · rw [blockCycle_overflow rule (by omega)] at h
    cases h
    exact .inr ⟨_, rfl⟩

theorem exitOrStay_exit {code : BitVec 4} {onExit : BitVec 17 → State → Except Fault State} {c : BitVec 17}
    {s : State} {th : BitVec 16} (ht : threshold code s.budget = some th) (h : th.toNat < c.toNat) :
    exitOrStay code onExit c s = onExit c s := by
  simp [exitOrStay, ht, (exceeds_eq_true c th).2 h]

theorem exitOrStay_stay {code : BitVec 4} {onExit : BitVec 17 → State → Except Fault State} {c : BitVec 17}
    {s : State} {th : BitVec 16} (ht : threshold code s.budget = some th) (h : c.toNat ≤ th.toNat) :
    exitOrStay code onExit c s = .ok (stayWith c s) := by
  simp [exitOrStay, ht, (exceeds_eq_false c th).2 h]

/-- A phase cycle within its threshold is STAY. -/
theorem phaseCycle_stay {code : BitVec 4} {onExit : BitVec 17 → State → Except Fault State} {s : State}
    {th : BitVec 16} (ht : threshold code s.budget = some th) (h : countAfter s ≤ th.toNat) (hp : portsAgree s) :
    phaseCycle code onExit s = .next (stayed s) := by
  have hl := th.isLt
  have hs := exitOrStay_stay (onExit := onExit) (c := cntNext s) (s := beginCycle s) ht
    (by rw [cntNext_toNat]; exact h)
  rw [phaseCycle, blockCycle_ok (by omega) hs]
  obtain ⟨hduty, hen⟩ := hp
  simp only [driveOutputs, stayed, stayWith, beginCycle, setWidth_cntNext, gate, gateOf, dutyFor, dutyOn, dutyOff] at *
  rw [← hduty, ← hen]

/-- A phase cycle past its threshold whose exit actions raise no fault. -/
theorem phaseCycle_exit {code : BitVec 4} {onExit : BitVec 17 → State → Except Fault State} {s t : State}
    {th : BitVec 16} (ht : threshold code s.budget = some th) (h : th.toNat < countAfter s)
    (hc : countAfter s ≤ 0xFFFF) (hr : onExit (cntNext s) (beginCycle s) = .ok t) :
    phaseCycle code onExit s = .next (driveOutputs t) := by
  have he := exitOrStay_exit (onExit := onExit) (c := cntNext s) (s := beginCycle s) ht
    (by rw [cntNext_toNat]; exact h)
  rw [phaseCycle, blockCycle_ok hc (he.trans hr)]

/-- A phase cycle past its threshold whose exit actions raise a fault. -/
theorem phaseCycle_error {code : BitVec 4} {onExit : BitVec 17 → State → Except Fault State} {s : State} {f : Fault}
    {th : BitVec 16} (ht : threshold code s.budget = some th) (h : th.toNat < countAfter s)
    (hc : countAfter s ≤ 0xFFFF) (hf : s.faults = []) (hr : onExit (cntNext s) (beginCycle s) = .error f) :
    phaseCycle code onExit s = .next (stuckOn f s) := by
  have he := exitOrStay_exit (onExit := onExit) (c := cntNext s) (s := beginCycle s) ht
    (by rw [cntNext_toNat]; exact h)
  rw [phaseCycle, blockCycle_error hc (he.trans hr)]
  simp [raiseFault, stuckOn, hf, recordFault_nil]

/-- ACCUMULATE-AND-RESET within a cycle. -/
theorem accumulate_in_cycle {s : State} (h : s.acc.toNat + countAfter s ≤ 0xFFFF) :
    accumulate (cntNext s) (beginCycle s) =
      .ok { beginCycle s with acc := BitVec.ofNat 16 (s.acc.toNat + countAfter s), cnt := 0#16 } := by
  rw [accumulate_of_le (by simpa [cntNext_toNat] using h), cntNext_toNat]
  rfl

theorem accumulate_in_cycle_error {s : State} (h : 0xFFFF < s.acc.toNat + countAfter s) :
    accumulate (cntNext s) (beginCycle s) = .error (.accOverflow s.st s.acc (cntNext s)) := by
  rw [accumulate_of_lt (by simpa [cntNext_toNat] using h)]
  rfl

/-- CLOSE-FRAME within a cycle. -/
theorem closeWith_in_cycle {s : State} (h : s.acc.toNat + countAfter s ≤ 4095) :
    closeWith (cntNext s) (beginCycle s) = .ok { beginCycle s with
      budget := BitVec.ofNat 16 (4095 - (s.acc.toNat + countAfter s)), acc := 0#16, cnt := 0#16 } := by
  rw [closeWith_of_le (by simpa [cntNext_toNat] using h), cntNext_toNat]
  rfl

theorem closeWith_in_cycle_error {s : State} (h : 4095 < s.acc.toNat + countAfter s) :
    closeWith (cntNext s) (beginCycle s) = .error (.budgetUnderflow (s.acc.toNat + countAfter s)) := by
  rw [closeWith_of_lt (by simpa [cntNext_toNat] using h), cntNext_toNat]
  rfl

/-- `cur` tests for -1 as a number. -/
theorem cur_eq_cursorDone (cur : BitVec 6) : cur = cursorDone ↔ cur.toInt = -1 := by
  constructor
  · rintro rfl
    rfl
  · intro h
    exact BitVec.eq_of_toInt_eq (h.trans rfl)

/-! ### Thresholds, gates and the codes' dispatch -/

@[simp] theorem threshold_ldrOn (b : BitVec 16) : threshold codeLdrOn b = some 340#16 := rfl
@[simp] theorem threshold_ldrOff (b : BitVec 16) : threshold codeLdrOff b = some 170#16 := rfl
@[simp] theorem threshold_bitOn (b : BitVec 16) : threshold codeBitOn b = some 21#16 := rfl
@[simp] theorem threshold_bit0Off (b : BitVec 16) : threshold codeBit0Off b = some 20#16 := rfl
@[simp] theorem threshold_bit1Off (b : BitVec 16) : threshold codeBit1Off b = some 63#16 := rfl
@[simp] theorem threshold_stopOn (b : BitVec 16) : threshold codeStopOn b = some 21#16 := rfl
@[simp] theorem threshold_stopOff (b : BitVec 16) : threshold codeStopOff b = some b := rfl
@[simp] theorem threshold_rptOn (b : BitVec 16) : threshold codeRptOn b = some 340#16 := rfl
@[simp] theorem threshold_rptOff (b : BitVec 16) : threshold codeRptOff b = some 85#16 := rfl

@[simp] theorem decodeState_idle : decodeState codeIdle = .idle := rfl
@[simp] theorem decodeState_ldrOn : decodeState codeLdrOn = .ldrOn := rfl
@[simp] theorem decodeState_ldrOff : decodeState codeLdrOff = .ldrOff := rfl
@[simp] theorem decodeState_bitOn : decodeState codeBitOn = .bitOn := rfl
@[simp] theorem decodeState_bit0Off : decodeState codeBit0Off = .bit0Off := rfl
@[simp] theorem decodeState_stopOn : decodeState codeStopOn = .stopOn := rfl
@[simp] theorem decodeState_bit1Off : decodeState codeBit1Off = .bit1Off := rfl
@[simp] theorem decodeState_rptOn : decodeState codeRptOn = .rptOn := rfl
@[simp] theorem decodeState_stopOff : decodeState codeStopOff = .stopOff := rfl
@[simp] theorem decodeState_rptOff : decodeState codeRptOff = .rptOff := rfl

/-- A STATE code always dispatches to a STATE row. -/
theorem decodeState_format (code : BitVec 4) : (decodeState code).format = .state := by
  unfold decodeState
  repeat' split
  all_goals rfl

/-- A STATE row is one cycle of the block under some rule. -/
theorem exec_state_eq {i : Instr} (hi : i.format = .state) (s : State) : ∃ rule, exec i s = blockCycle rule s := by
  cases i <;> first
    | contradiction
    | simp only [exec, execIdle, execLdrOn, execLdrOff, execBitOn, execBit0Off, execStopOn, execBit1Off, execRptOn,
        execStopOff, execRptOff, execReserved1001, execReserved1011, execReserved11xx, phaseCycle]
      exact ⟨_, rfl⟩

/-- A STATE row always answers a next state. -/
theorem exec_state_next {i : Instr} (hi : i.format = .state) (s : State) : ∃ t, exec i s = .next t := by
  obtain ⟨rule, h⟩ := exec_state_eq hi s
  rw [h]
  exact blockCycle_next rule s

/-- Only RESERVED_11X is refused, and nothing ends in a fault outcome. -/
theorem exec_next_or_reserved (i : Instr) (s : State) :
    (∃ t, exec i s = .next t) ∨ ∃ low, i = .reserved11x low := by
  cases i <;> first
    | exact .inr ⟨_, rfl⟩
    | exact .inl (exec_state_next rfl s)
    | exact .inl ⟨_, rfl⟩
    | (simp only [exec, execTick, execAccumulateAndReset, execCloseFrame, execStay, execEnterBit]
       exact .inl (orRaise_next _ _))

/-! ### Scripts and the end of a run -/

/-- The tick count of the cycle after s, as the environment sees it coming. -/
theorem tickNoOfCycle_advance (s t : State) : tickNoOfCycle (advance s t) = tickNoComing s t := rfl

/-- A run goes on only where `rst` is low and no fault is recorded. -/
theorem runBroken_eq_false {s : State} : runBroken s = false ↔ s.rst = false ∧ s.faults = [] := by
  simp [runBroken, faulted_eq_false]

theorem transmissionEnded_eq_true {s t : State} :
    transmissionEnded s t = true ↔
      s.rst = false ∧ s.faults = [] ∧ s.st ≠ codeIdle ∧ t.st = codeIdle ∧ t.faults = [] := by
  simp [transmissionEnded, runBroken_eq_false, faulted_eq_false, and_assoc]

/-! ### The lines of a script -/

/-- No line governs the button where none is due. -/
theorem lastDue_eq_none {n : Nat} {events : List ButtonEvent} :
    lastDue n events = none ↔ ∀ d ∈ events, n < d.at_ := by
  induction events with
  | nil => simp [lastDue]
  | cons e rest ih =>
    cases h : lastDue n rest with
    | none => simpa [lastDue, h] using fun _ => ih.1 h
    | some d =>
      rw [h] at ih
      simp only [lastDue, h, List.forall_mem_cons]
      split <;> simp_all

/-- The line that governs the button is a due line of the script with the latest t. -/
theorem lastDue_eq_some {n : Nat} {events : List ButtonEvent} {e : ButtonEvent} (h : lastDue n events = some e) :
    e ∈ events ∧ e.at_ ≤ n ∧ ∀ d ∈ events, d.at_ ≤ n → d.at_ ≤ e.at_ := by
  induction events generalizing e with
  | nil => simp [lastDue] at h
  | cons c rest ih =>
    cases hr : lastDue n rest with
    | none =>
      have hl := lastDue_eq_none.1 hr
      simp only [lastDue, hr, Option.ite_none_right_eq_some, Option.some.injEq] at h
      obtain ⟨hc, rfl⟩ := h
      refine ⟨List.mem_cons_self, hc, fun d hd hn => ?_⟩
      rcases List.mem_cons.1 hd with rfl | hd
      · exact le_rfl
      · exact absurd hn (not_le.2 (hl d hd))
    | some b =>
      obtain ⟨hb, hbn, hmax⟩ := ih hr
      simp only [lastDue, hr] at h
      split at h <;> cases h
      · next hc =>
        refine ⟨List.mem_cons_self, hc.1, fun d hd hn => ?_⟩
        rcases List.mem_cons.1 hd with rfl | hd
        · exact le_rfl
        · exact (hmax d hd hn).trans hc.2.le
      · next hc =>
        refine ⟨List.mem_cons_of_mem _ hb, hbn, fun d hd hn => ?_⟩
        rcases List.mem_cons.1 hd with rfl | hd
        · omega
        · exact hmax d hd hn

/-! ### Steps -/

theorem step_reset {s : State} (h : s.rst = true) : step s = .next (advance s (resetBlock s)) := by
  simp [step, h]

theorem step_faulted {s : State} (h : s.rst = false) (hf : s.faults ≠ []) :
    step s = .next (advance s (holdBlock s)) := by
  simp [step, h, faulted_eq_true.2 hf]

theorem step_cycle {s : State} (h : s.rst = false) (hf : s.faults = []) (hr : s.replay = []) :
    step s = thenAdvance s (exec (decodeState s.st) s) := by
  simp [step, h, faulted_eq_false.2 hf, hr, fetchState]

theorem step_replay {s : State} {rec : BitVec 11} {rest : List (BitVec 11)} {i : Instr} (h : s.rst = false)
    (hf : s.faults = []) (hr : s.replay = rec :: rest) (hd : decodeEffect rec = .ok i) :
    step s = exec i { s with replay := rest } := by
  simp [step, h, faulted_eq_false.2 hf, hr, hd]

theorem step_replay_error {s : State} {rec : BitVec 11} {rest : List (BitVec 11)} {e : DecodeError} (h : s.rst = false)
    (hf : s.faults = []) (hr : s.replay = rec :: rest) (hd : decodeEffect rec = .error e) :
    step s = .refused (.notAnEffectRecord rec) := by
  simp [step, h, faulted_eq_false.2 hf, hr, hd]

end Sys2Proof.Laws
end

