-- ==== Sys2Proof/Laws/Cycle.lean ====
section
/-! SUPPORT. Once for all STATE rows, everything one clock cycle can do, and for `step` the same. -/

namespace Sys2Proof.Laws

open Sys2Proof.Machine Sys2Proof.Safety
open Host (Outcome)

/-- The rows whose cycle may be STAY without reading the button: every phase of a transmission. -/
def phaseRows : List Instr :=
  [.ldrOn, .ldrOff, .bitOn, .bit0Off, .bit1Off, .stopOn, .stopOff, .rptOn, .rptOff]

/-- The rows that leave a mark by ACCUMULATE-AND-RESET, with the space each goes to. -/
def toSpaceRows : List (Instr × BitVec 4) :=
  [(.ldrOn, codeLdrOff), (.bitOn, codeBit0Off), (.bitOn, codeBit1Off), (.rptOn, codeRptOff)]

/-- What a cycle of a STATE row does: the row and the state it leads to, one constructor per kind of cycle. -/
inductive StateCycle (s : State) : Instr → State → Prop
  | fault (i : Instr) (f : Fault) : StateCycle s i (raiseFault f { s with effects := [] })
  | idleStay (hb : s.btnN = true) (hc : countAfter s ≤ 0xFFFF) :
      StateCycle s .idle (driveOutputs { stayed s with effects := [.btnRead false] })
  | idleExit (hb : s.btnN = false) (hc : countAfter s ≤ 0xFFFF) :
      StateCycle s .idle { s with
        st := codeLdrOn, cnt := 0#16, acc := 0#16, cur := 31#6, armed := true
        duty := 70#8, tmrEn := true, tmrClr := true, tmrLeft := s.clkPerTick
        effects := [.btnRead true, .tmrReset, .tmrArm 210#8, .pwmDuty 70#8] }
  | stay (i : Instr) (hi : i ∈ phaseRows) (hb : i = .stopOff → countAfter s ≤ s.budget.toNat) :
      StateCycle s i (driveOutputs (stayed s))
  | space (i : Instr) (c : BitVec 4) (a : BitVec 16) (hi : (i, c) ∈ toSpaceRows) :
      StateCycle s i { s with
        st := c, acc := a, cnt := 0#16, duty := 0#8, tmrEn := s.armed, tmrClr := false, effects := [.pwmDuty 0#8] }
  | mark (i : Instr) (a : BitVec 16) (hi : i ∈ [.bit0Off, .bit1Off, .rptOff]) :
      StateCycle s i { s with
        st := codeStopOn, acc := a, cnt := 0#16
        duty := 70#8, tmrEn := s.armed, tmrClr := false, effects := [.pwmDuty 70#8] }
  | bit (i : Instr) (a : BitVec 16) (hi : i ∈ [.ldrOff, .bit0Off, .bit1Off]) :
      StateCycle s i { s with
        st := codeBitOn, acc := a, cnt := 0#16, curbit := s.dc.getLsbD s.cur.toInt.toNat, cur := s.cur - 1#6
        duty := 70#8, tmrEn := s.armed, tmrClr := false, effects := [.pwmDuty 70#8] }
  | close (b : BitVec 16) :
      StateCycle s .stopOn { s with
        st := codeStopOff, budget := b, acc := 0#16, cnt := 0#16
        duty := 0#8, tmrEn := s.armed, tmrClr := false, effects := [.pwmDuty 0#8] }
  | again (hc : s.budget.toNat < countAfter s) (hb : s.btnN = false) :
      StateCycle s .stopOff { s with
        st := codeRptOn, cnt := 0#16, cur := 31#6
        duty := 70#8, tmrEn := s.armed, tmrClr := false, effects := [.btnRead true, .pwmDuty 70#8] }
  | done (hc : s.budget.toNat < countAfter s) (hb : s.btnN = true) :
      StateCycle s .stopOff { s with
        st := codeIdle, cnt := 0#16, acc := 0#16, cur := 31#6, armed := false
        duty := 0#8, tmrEn := false, tmrClr := false, effects := [.btnRead false, .tmrDisarm] }

theorem stateCycle_of_blockCycle {rule : BitVec 17 → State → Except Fault State} {s t : State} {i : Instr}
    (h : blockCycle rule s = .next t)
    (hr : ∀ u, countAfter s ≤ 0xFFFF → rule (cntNext s) (beginCycle s) = .ok u → StateCycle s i (driveOutputs u)) :
    StateCycle s i t := by
  rcases blockCycle_cases h with ⟨u, hc, h1, rfl⟩ | ⟨f, rfl⟩
  · exact hr u hc h1
  · exact .fault i f

theorem stateCycle_of_phaseCycle {code : BitVec 4} {onExit : BitVec 17 → State → Except Fault State} {s t : State}
    {i : Instr} {th : BitVec 16} (h : phaseCycle code onExit s = .next t) (hi : i ∈ phaseRows)
    (ht : threshold code s.budget = some th) (hb : i = .stopOff → th = s.budget)
    (hr : ∀ u, th.toNat < countAfter s → onExit (cntNext s) (beginCycle s) = .ok u → StateCycle s i (driveOutputs u)) :
    StateCycle s i t := by
  refine stateCycle_of_blockCycle h fun u _ hu => ?_
  by_cases hle : countAfter s ≤ th.toNat
  · rw [exitOrStay_stay (s := beginCycle s) ht (by rw [cntNext_toNat]; exact hle)] at hu
    cases hu
    have hs : stayWith (cntNext s) (beginCycle s) = stayed s := by
      simp [stayWith, beginCycle, stayed, setWidth_cntNext]
    rw [hs]
    exact .stay i hi fun h => by rw [hb h] at hle; exact hle
  · rw [exitOrStay_exit (s := beginCycle s) ht (by rw [cntNext_toNat]; omega)] at hu
    exact hr u (by omega) hu

/-- ACCUMULATE-AND-RESET that raises nothing writes `acc` and clears `cnt`. -/
theorem accumulate_inv {c : BitVec 17} {s u : State} (h : accumulate c s = .ok u) :
    ∃ a, u = { s with acc := a, cnt := 0#16 } := by
  unfold accumulate at h
  split at h
  · cases h
  · cases h
    exact ⟨_, rfl⟩

/-- CLOSE-FRAME that raises nothing writes `budget` and clears `acc` and `cnt`. -/
theorem closeWith_inv {c : BitVec 17} {s u : State} (h : closeWith c s = .ok u) :
    ∃ b, u = { s with budget := b, acc := 0#16, cnt := 0#16 } := by
  unfold closeWith at h
  split at h
  · cases h
  · cases h
    exact ⟨_, rfl⟩

/-- ENTER-BIT that raises nothing. -/
theorem startBit_inv {s u : State} (h : startBit s = .ok u) :
    u = gateOn { s with curbit := s.dc.getLsbD s.cur.toInt.toNat, cur := s.cur - 1#6, st := codeBitOn } := by
  by_cases hc : 0 ≤ s.cur.toInt
  · rw [startBit_of_nonneg hc] at h
    cases h
    rfl
  · rw [startBit_of_neg (by omega)] at h
    cases h

theorem toSpaceRows_gate {i : Instr} {c : BitVec 4} (h : (i, c) ∈ toSpaceRows) : gateOf c = false := by
  simp only [toSpaceRows, List.mem_cons, Prod.mk.injEq, List.not_mem_nil, or_false] at h
  rcases h with ⟨-, rfl⟩ | ⟨-, rfl⟩ | ⟨-, rfl⟩ | ⟨-, rfl⟩ <;> rfl

theorem stateCycle_of_toSpace {s u : State} {next : State → BitVec 4} {i : Instr}
    (hi : ∀ t, (i, next t) ∈ toSpaceRows) (h : toSpace next (cntNext s) (beginCycle s) = .ok u) :
    StateCycle s i (driveOutputs u) := by
  unfold toSpace at h
  cases ha : accumulate (cntNext s) (beginCycle s) with
  | error f => rw [ha] at h; cases h
  | ok v =>
    rw [ha] at h
    cases h
    obtain ⟨a, rfl⟩ := accumulate_inv ha
    have hg := toSpaceRows_gate (hi { beginCycle s with acc := a, cnt := 0#16 })
    have hs := StateCycle.space (s := s) i _ a (hi { beginCycle s with acc := a, cnt := 0#16 })
    convert hs using 1
    simp [driveOutputs, gateOff, emit, beginCycle, gate, dutyFor, dutyOff] at hg ⊢
    simp [hg]

theorem stateCycle_of_toMark {s u : State} {i : Instr} (hi : i ∈ [Instr.bit0Off, .bit1Off, .rptOff])
    (h : toMark codeStopOn (cntNext s) (beginCycle s) = .ok u) : StateCycle s i (driveOutputs u) := by
  unfold toMark at h
  cases ha : accumulate (cntNext s) (beginCycle s) with
  | error f => rw [ha] at h; cases h
  | ok v =>
    rw [ha] at h
    cases h
    obtain ⟨a, rfl⟩ := accumulate_inv ha
    convert StateCycle.mark (s := s) i a hi using 1
    simp [driveOutputs, gateOn, emit, beginCycle, gate, gateOf, codeStopOn, dutyFor, dutyOn]

theorem stateCycle_of_startBit {s v u : State} {i : Instr} (hi : i ∈ [Instr.ldrOff, .bit0Off, .bit1Off])
    (ha : accumulate (cntNext s) (beginCycle s) = .ok v) (h : startBit v = .ok u) :
    StateCycle s i (driveOutputs u) := by
  obtain ⟨a, rfl⟩ := accumulate_inv ha
  rw [startBit_inv h]
  convert StateCycle.bit (s := s) i a hi using 1
  simp [driveOutputs, gateOn, emit, beginCycle, gate, gateOf, codeBitOn, dutyFor, dutyOn]

theorem stateCycle_of_afterBit {s u : State} {i : Instr} (hi : i = .bit0Off ∨ i = .bit1Off)
    (h : afterBit (cntNext s) (beginCycle s) = .ok u) : StateCycle s i (driveOutputs u) := by
  unfold afterBit at h
  split at h
  · exact stateCycle_of_toMark (by rcases hi with rfl | rfl <;> simp) h
  · cases ha : accumulate (cntNext s) (beginCycle s) with
    | error f => rw [ha] at h; cases h
    | ok v =>
      rw [ha] at h
      exact stateCycle_of_startBit (by rcases hi with rfl | rfl <;> simp) ha h

/-- Everything a cycle of a STATE row can do. -/
theorem exec_state_cases {i : Instr} {s t : State} (hi : i.format = .state) (h : exec i s = .next t) :
    StateCycle s i t := by
  cases i <;> first
    | contradiction
    | simp only [exec, execIdle, execLdrOn, execLdrOff, execBitOn, execBit0Off, execStopOn, execBit1Off, execRptOn,
        execStopOff, execRptOff, execReserved1001, execReserved1011, execReserved11xx] at h
  case idle =>
    refine stateCycle_of_blockCycle h fun u hc hu => ?_
    cases hu
    cases hb : s.btnN
    · convert StateCycle.idleExit hb hc using 1
      simp [btn, hb, driveOutputs, readButton, startTransmission, armTimer, gateOn, emit, beginCycle, gate, gateOf,
        dutyFor, dutyOn, cursorStart, codeLdrOn, Config.pwmPeriodTicks]
    · convert StateCycle.idleStay hb hc using 1
      simp [btn, hb, readButton, stayWith, stayed, emit, beginCycle, setWidth_cntNext]
  case ldrOn =>
    exact stateCycle_of_phaseCycle h (by decide) (threshold_ldrOn _) (by simp) fun u _ hu =>
      stateCycle_of_toSpace (fun _ => by decide) hu
  case ldrOff =>
    refine stateCycle_of_phaseCycle h (by decide) (threshold_ldrOff _) (by simp) fun u _ hu => ?_
    cases ha : accumulate (cntNext s) (beginCycle s) with
    | error f => rw [ha] at hu; cases hu
    | ok v =>
      rw [ha] at hu
      exact stateCycle_of_startBit (by decide) ha hu
  case bitOn =>
    exact stateCycle_of_phaseCycle h (by decide) (threshold_bitOn _) (by simp) fun u _ hu =>
      stateCycle_of_toSpace (fun t => by cases t.curbit <;> decide) hu
  case bit0Off =>
    exact stateCycle_of_phaseCycle h (by decide) (threshold_bit0Off _) (by simp) fun u _ hu =>
      stateCycle_of_afterBit (.inl rfl) hu
  case bit1Off =>
    exact stateCycle_of_phaseCycle h (by decide) (threshold_bit1Off _) (by simp) fun u _ hu =>
      stateCycle_of_afterBit (.inr rfl) hu
  case stopOn =>
    refine stateCycle_of_phaseCycle h (by decide) (threshold_stopOn _) (by simp) fun u _ hu => ?_
    cases ha : closeWith (cntNext s) (beginCycle s) with
    | error f => rw [ha] at hu; cases hu
    | ok v =>
      rw [ha] at hu
      cases hu
      obtain ⟨b, rfl⟩ := closeWith_inv ha
      convert StateCycle.close (s := s) b using 1
      simp [driveOutputs, gateOff, emit, beginCycle, gate, gateOf, codeStopOff, dutyFor, dutyOff]
  case stopOff =>
    refine stateCycle_of_phaseCycle h (by decide) (threshold_stopOff _) (fun _ => rfl) fun u hc hu => ?_
    cases hu
    cases hb : s.btnN
    · convert StateCycle.again hc hb using 1
      simp [leaveStopOff, btn, hb, driveOutputs, gateOn, readButton, clearCount, emit, beginCycle, gate, gateOf,
        codeRptOn, cursorStart, dutyFor, dutyOn]
    · convert StateCycle.done hc hb using 1
      simp [leaveStopOff, btn, hb, driveOutputs, endTransmission, disarmTimer, readButton, clearCount, emit, beginCycle,
        gate, gateOf, codeIdle, cursorStart, dutyFor, dutyOff]
  case rptOn =>
    exact stateCycle_of_phaseCycle h (by decide) (threshold_rptOn _) (by simp) fun u _ hu =>
      stateCycle_of_toSpace (fun _ => by decide) hu
  case rptOff =>
    exact stateCycle_of_phaseCycle h (by decide) (threshold_rptOff _) (by simp) fun u _ hu =>
      stateCycle_of_toMark (by decide) hu
  case reserved1001 => exact stateCycle_of_blockCycle h fun u _ hu => by cases hu
  case reserved1011 => exact stateCycle_of_blockCycle h fun u _ hu => by cases hu
  case reserved11xx => exact stateCycle_of_blockCycle h fun u _ hu => by cases hu

/-- A reserved code's cycle records a fault and does nothing else. -/
theorem exec_reserved {i : Instr} {s t : State} (hi : isReserved i) (h : exec i s = .next t) :
    ∃ f, t = raiseFault f { s with effects := [] } := by
  rcases hi with rfl | rfl | ⟨low, rfl⟩ <;>
    exact (blockCycle_cases h).resolve_left fun ⟨_, _, hr, _⟩ => nomatch hr

/-- Everything a step that answers a next state can have been: a reset cycle, a cycle of a stuck block, a cycle of
the state rule, or the replay of a record. -/
theorem step_cases {s t : State} (h : step s = .next t) :
    (s.rst = true ∧ t = advance s (resetBlock s)) ∨
      (s.rst = false ∧ s.faults ≠ [] ∧ t = advance s (holdBlock s)) ∨
      (s.rst = false ∧ s.faults = [] ∧ s.replay = [] ∧
        ∃ u, exec (decodeState s.st) s = .next u ∧ t = advance s u) ∨
      (s.rst = false ∧ s.faults = [] ∧ ∃ rec rest i, s.replay = rec :: rest ∧ decodeEffect rec = .ok i ∧
        exec i { s with replay := rest } = .next t) := by
  by_cases hrst : s.rst = true
  · rw [step_reset hrst] at h
    cases h
    exact .inl ⟨hrst, rfl⟩
  · rw [Bool.not_eq_true] at hrst
    refine .inr ?_
    by_cases hf : s.faults = []
    · refine .inr ?_
      cases hr : s.replay with
      | nil =>
        obtain ⟨u, hu⟩ := exec_state_next (decodeState_format s.st) s
        rw [step_cycle hrst hf hr, hu] at h
        cases h
        exact .inl ⟨hrst, hf, rfl, u, hu, rfl⟩
      | cons rec rest =>
        cases hd : decodeEffect rec with
        | ok i =>
          rw [step_replay hrst hf hr hd] at h
          exact .inr ⟨hrst, hf, rec, rest, i, rfl, hd, h⟩
        | error e =>
          rw [step_replay_error hrst hf hr hd] at h
          cases h
    · rw [step_faulted hrst hf] at h
      cases h
      exact .inl ⟨hrst, hf, rfl⟩

end Sys2Proof.Laws
end

