-- ==== Sys2Proof/Laws/PerInstr.lean ====
section
/-! SUPPORT. Statements about every operation as syntax, one lemma per constructor. -/

namespace Sys2Proof.Laws.EncodesInItsFormat

/-- An operation's word is of its row's format; a micro-operation has no word, but for the two that are encoded as the
record they emit (30_encoding.md R70; 41_subcarrier_output.md R121, R122; 40_tick_source.md R104). -/
def Statement (i : Instr) : Prop :=
  match encode i with
  | some w => w.format = i.format ∨ (i.format = .microOp ∧ w.format = .effect)
  | none => i.format = .microOp

theorem idle : Statement .idle := .inl rfl
theorem ldrOn : Statement .ldrOn := .inl rfl
theorem ldrOff : Statement .ldrOff := .inl rfl
theorem bitOn : Statement .bitOn := .inl rfl
theorem bit0Off : Statement .bit0Off := .inl rfl
theorem stopOn : Statement .stopOn := .inl rfl
theorem bit1Off : Statement .bit1Off := .inl rfl
theorem rptOn : Statement .rptOn := .inl rfl
theorem stopOff : Statement .stopOff := .inl rfl
theorem rptOff : Statement .rptOff := .inl rfl
theorem reserved1001 : Statement .reserved1001 := .inl rfl
theorem reserved1011 : Statement .reserved1011 := .inl rfl
theorem reserved11xx (low : BitVec 2) : Statement (.reserved11xx low) := .inl rfl
theorem tick (btnN : Bool) : Statement (.tick btnN) := .inl rfl
theorem effNone : Statement .effNone := .inl rfl
theorem tmrReset : Statement .tmrReset := .inl rfl
theorem tmrArm (p : BitVec 8) : Statement (.tmrArm p) := .inl rfl
theorem tmrDisarm : Statement .tmrDisarm := .inl rfl
theorem pwmDuty (n : BitVec 8) : Statement (.pwmDuty n) := .inl rfl
theorem btnRead (asserted : Bool) : Statement (.btnRead asserted) := .inl rfl
theorem reserved11x (low : BitVec 9) : Statement (.reserved11x low) := .inl rfl
theorem setGateOn : Statement .setGateOn := .inr ⟨rfl, rfl⟩
theorem setGateOff : Statement .setGateOff := .inr ⟨rfl, rfl⟩
theorem accumulateAndReset : Statement .accumulateAndReset := rfl
theorem closeFrame : Statement .closeFrame := rfl
theorem resetOnly : Statement .resetOnly := rfl
theorem stay : Statement .stay := rfl
theorem enterBit : Statement .enterBit := rfl
theorem terminate : Statement .terminate := rfl

end Sys2Proof.Laws.EncodesInItsFormat
end

