-- ==== Sys2Proof/Tests/Slice0.lean ====
section
/-! SUPPORT. Tests of single operations against the vectors of 95_test_vectors.md, decoding tests on words written out
from 30_encoding.md, and a witness for the hypotheses of every obligation that has some. -/

namespace Sys2Proof.Tests

open Sys2Proof.Machine Sys2Proof.Safety

/-! ### Test states -/

/-- The reset state with CLK_PER_TICK = 3 and a stimulus script without lines. -/
def base : State := { State.reset with clkPerTick := 3, button := .script [] }

/-- A transmission's state: `st`, `cnt`, `acc`, `cur` and the cycle's `tick`, armed, the ports in agreement. -/
def inPhase (code : BitVec 4) (cnt acc : BitVec 16) (cur : BitVec 6) (tick : Bool) : State :=
  { base with
    st := code, cnt := cnt, acc := acc, cur := cur, tick := tick
    armed := true, tmrEn := true, duty := dutyFor (gateOf code) }

/-- A state of the frame of 0x02FD48B7 at the last cycle of its StopOff phase, with a tick. -/
def frameEnd (btnN : Bool) : State :=
  { inPhase codeStopOff 1497#16 0#16 0b111111#6 true with budget := 1497#16, tickNo := 4095, btnN := btnN }

/-- LeaderOn as the Idle exit leaves it. -/
def frameStart : State := inPhase codeLdrOn 0#16 0#16 31#6 false

/-- RepeatOn as StopOff's exit leaves it. -/
def repeatStart : State := { inPhase codeRptOn 0#16 0#16 31#6 false with tickNo := 4096 }

/-- The registers after an outcome: `st`, `cnt`, `acc`, `budget`, `cur`, `curbit`. -/
def regsOf (o : Host.Outcome State Fault Refusal) :
    Option (BitVec 4 × BitVec 16 × BitVec 16 × BitVec 16 × Int × Bool) :=
  (nextOf o).map fun t => (t.st, t.cnt, t.acc, t.budget, t.cur.toInt, t.curbit)

/-- The fault record after an outcome. -/
def faultsOf (o : Host.Outcome State Fault Refusal) : Option (List Fault) := (nextOf o).map State.faults

/-- The effects after an outcome. -/
def effectsOf (o : Host.Outcome State Fault Refusal) : Option (List Effect) := (nextOf o).map State.effects

/-! ### Well-formedness -/

/-- TMR_ARM's argument is 210 (30_encoding.md R77). -/
theorem test_wf_tmrArm_refuses : (Instr.tmrArm 209#8).wf = false := by decide

theorem test_wf_tmrArm_accepts : (Instr.tmrArm 210#8).wf = true := by decide

/-- An ill-formed TMR_ARM's word is refused (30_encoding.md R77; log 11). -/
theorem test_decode_tmrArm_209 : decode (.effect 0b01011010001#11) = .error .badArgument := rfl

/-! ### Decoding, each word written out from 30_encoding.md R71, R73, R74 and R77 -/

theorem test_decode_idle : decode (.state 0b0000#4) = .ok .idle := rfl
theorem test_decode_ldrOn : decode (.state 0b0001#4) = .ok .ldrOn := rfl
theorem test_decode_ldrOff : decode (.state 0b0010#4) = .ok .ldrOff := rfl
theorem test_decode_bitOn : decode (.state 0b0011#4) = .ok .bitOn := rfl
theorem test_decode_bit0Off : decode (.state 0b0100#4) = .ok .bit0Off := rfl
theorem test_decode_stopOn : decode (.state 0b0101#4) = .ok .stopOn := rfl
theorem test_decode_bit1Off : decode (.state 0b0110#4) = .ok .bit1Off := rfl
theorem test_decode_rptOn : decode (.state 0b0111#4) = .ok .rptOn := rfl
theorem test_decode_stopOff : decode (.state 0b1000#4) = .ok .stopOff := rfl
theorem test_decode_rptOff : decode (.state 0b1010#4) = .ok .rptOff := rfl
theorem test_decode_reserved1001 : decode (.state 0b1001#4) = .ok .reserved1001 := rfl
theorem test_decode_reserved1011 : decode (.state 0b1011#4) = .ok .reserved1011 := rfl
theorem test_decode_reserved11xx : decode (.state 0b1110#4) = .ok (.reserved11xx 0b10#2) := rfl
theorem test_decode_tick : decode (.input 0b10#2) = .ok (.tick false) := rfl
theorem test_decode_no_tick : decode (.input 0b01#2) = .error .noTick := rfl
theorem test_decode_effNone : decode (.effect 0b00000000000#11) = .ok .effNone := rfl
theorem test_decode_tmrReset : decode (.effect 0b00100000000#11) = .ok .tmrReset := rfl
theorem test_decode_tmrArm : decode (.effect 0b01011010010#11) = .ok (.tmrArm 210#8) := rfl
theorem test_decode_tmrDisarm : decode (.effect 0b01100000000#11) = .ok .tmrDisarm := rfl
theorem test_decode_pwmDuty : decode (.effect 0b10001000110#11) = .ok (.pwmDuty 70#8) := rfl
theorem test_decode_btnRead : decode (.effect 0b10100000001#11) = .ok (.btnRead true) := rfl
theorem test_decode_btnRead_2 : decode (.effect 0b10100000010#11) = .error .badArgument := rfl
theorem test_decode_reserved11x : decode (.effect 0b11100000101#11) = .ok (.reserved11x 0b100000101#9) := rfl

/-- The micro-operations with a word are the records of spec/opcode_table.json's notes; the others have none. -/
theorem test_encode_setGateOn : encode .setGateOn = some (.effect 0b10001000110#11) := rfl
theorem test_encode_setGateOff : encode .setGateOff = some (.effect 0b10000000000#11) := rfl
theorem test_encode_microOps_without_word :
    [Instr.accumulateAndReset, .closeFrame, .resetOnly, .stay, .enterBit, .terminate].map encode
      = List.replicate 6 none := by decide

/-- Words numbered as spec/opcode_table.json numbers them, in whole bytes. -/
theorem test_table_words :
    decodeTableWord 8 0xA = some .rptOff ∧ decodeTableWord 16 0x2D2 = some (.tmrArm 210#8) ∧
    decodeTableWord 2 0x3 = some (.tick true) ∧ decodeTableWord 8 0x10 = none := by decide

/-- A record placed by `withFetchWord` is what the next step runs. -/
theorem test_withFetchWord_effect :
    nextOf (step (State.withFetchWord base 16 0x446)) = some { base with effects := [.pwmDuty 70#8], duty := 70#8 } := by
  decide

/-- A state code placed by `withFetchWord` is what the next step runs. -/
theorem test_withFetchWord_state :
    faultsOf (step (State.withFetchWord base 8 0x9)) = some [.illegalState 0b1001#4] := by decide

/-! ### STATE rows: 95_test_vectors.md L2.3, L2.4, L2.9 -/

/-- I1. -/
theorem test_idle_released : nextOf (exec .idle base) = some { base with effects := [.btnRead false] } := by decide

/-- I2 and X3, with the `budget` of I3. -/
theorem test_idle_pressed :
    nextOf (exec .idle { base with btnN := false, budget := 1497#16 }) = some { base with
      btnN := false, budget := 1497#16, st := 0b0001#4, armed := true, duty := 70#8, tmrEn := true, tmrClr := true
      tmrLeft := 3, effects := [.btnRead true, .tmrReset, .tmrArm 210#8, .pwmDuty 70#8] } := by decide

/-- E1: stays at 340. -/
theorem test_ldrOn_stays :
    regsOf (exec .ldrOn (inPhase codeLdrOn 339#16 0#16 31#6 true)) =
      some (0b0001#4, 340#16, 0#16, 0#16, 31, false) := by decide

/-- E1: exits at 341 (also T5 and A1). -/
theorem test_ldrOn_exits :
    regsOf (exec .ldrOn (inPhase codeLdrOn 340#16 0#16 31#6 true)) =
      some (0b0010#4, 0#16, 341#16, 0#16, 31, false) := by decide

/-- E2: stays at 170. -/
theorem test_ldrOff_stays :
    regsOf (exec .ldrOff (inPhase codeLdrOff 169#16 341#16 31#6 true)) =
      some (0b0010#4, 170#16, 341#16, 0#16, 31, false) := by decide

/-- E2: exits at 171, `cur` 31 to 30 (also A2 and B1). -/
theorem test_ldrOff_exits :
    regsOf (exec .ldrOff (inPhase codeLdrOff 170#16 341#16 31#6 true)) =
      some (0b0011#4, 0#16, 512#16, 0#16, 30, false) := by decide

/-- E3. -/
theorem test_bitOn_zero :
    regsOf (exec .bitOn (inPhase codeBitOn 21#16 512#16 30#6 true)) =
      some (0b0100#4, 0#16, 534#16, 0#16, 30, false) := by decide

/-- E4. -/
theorem test_bitOn_one :
    regsOf (exec .bitOn { inPhase codeBitOn 21#16 770#16 24#6 true with curbit := true }) =
      some (0b0110#4, 0#16, 792#16, 0#16, 24, true) := by decide

/-- E5, with `DC[12]` of 0x02FD48B7. -/
theorem test_bit0Off_next_bit :
    regsOf (exec .bit0Off (inPhase codeBit0Off 20#16 1695#16 12#6 true)) =
      some (0b0011#4, 0#16, 1716#16, 0#16, 11, false) := by decide

/-- E6. -/
theorem test_bit0Off_last :
    regsOf (exec .bit0Off (inPhase codeBit0Off 20#16 1867#16 0b111111#6 true)) =
      some (0b0101#4, 0#16, 1888#16, 0#16, -1, false) := by decide

/-- E7, with `DC[0]` of 0x02FD48B7. -/
theorem test_bit1Off_next_bit :
    regsOf (exec .bit1Off (inPhase codeBit1Off 63#16 2426#16 0#6 true)) =
      some (0b0011#4, 0#16, 2490#16, 0#16, -1, true) := by decide

/-- E8. -/
theorem test_bit1Off_last :
    regsOf (exec .bit1Off (inPhase codeBit1Off 63#16 2512#16 0b111111#6 true)) =
      some (0b0101#4, 0#16, 2576#16, 0#16, -1, false) := by decide

/-- E9 and F1. -/
theorem test_stopOn_exits :
    regsOf (exec .stopOn (inPhase codeStopOn 21#16 2576#16 0b111111#6 true)) =
      some (0b1000#4, 0#16, 0#16, 1497#16, -1, false) := by decide

/-- F5: one period too many, and nothing changes but the record. -/
theorem test_stopOn_underflow :
    nextOf (exec .stopOn (inPhase codeStopOn 21#16 4074#16 0b111111#6 true)) =
      some { inPhase codeStopOn 21#16 4074#16 0b111111#6 true with faults := [.budgetUnderflow 4096] } := by decide

/-- E10, R1 and X6: the button down in the exit cycle. -/
theorem test_stopOff_repeats :
    regsOf (exec .stopOff (frameEnd false)) = some (0b0111#4, 0#16, 0#16, 1497#16, 31, false) ∧
    effectsOf (exec .stopOff (frameEnd false)) = some [.btnRead true, .pwmDuty 70#8] := by decide

/-- E11, X1, X7 and G4: the button up in the exit cycle. -/
theorem test_stopOff_ends :
    nextOf (exec .stopOff { inPhase codeStopOff 3646#16 0#16 31#6 true with budget := 3646#16, curbit := true }) =
      some { base with tick := true, budget := 3646#16, curbit := true, effects := [.btnRead false, .tmrDisarm] } := by
  decide

/-- E12. -/
theorem test_rptOn_exits :
    regsOf (exec .rptOn (inPhase codeRptOn 340#16 0#16 31#6 true)) =
      some (0b1010#4, 0#16, 341#16, 0#16, 31, false) := by decide

/-- E13. -/
theorem test_rptOff_exits :
    regsOf (exec .rptOff (inPhase codeRptOff 85#16 341#16 31#6 true)) =
      some (0b0101#4, 0#16, 427#16, 0#16, 31, false) := by decide

/-- X8 and STAY's outputs: no effect, `duty` held (42_protocol_encoder.md R142). -/
theorem test_rptOff_stays :
    nextOf (exec .rptOff (inPhase codeRptOff 84#16 341#16 31#6 true)) =
      some (inPhase codeRptOff 85#16 341#16 31#6 true) := by decide

/-- R2. -/
theorem test_reserved1001 :
    nextOf (exec .reserved1001 (inPhase 0b1001#4 3#16 9#16 31#6 true)) =
      some { inPhase 0b1001#4 3#16 9#16 31#6 true with faults := [.illegalState 0b1001#4] } := by decide

theorem test_reserved1011 :
    faultsOf (exec .reserved1011 (inPhase 0b1011#4 0#16 0#16 31#6 false)) = some [.illegalState 0b1011#4] := by decide

/-- R3: CounterOverflow has priority over IllegalState. -/
theorem test_reserved11xx_overflow :
    faultsOf (exec (.reserved11xx 3#2) (inPhase 0b1111#4 0xFFFF#16 0#16 31#6 true)) =
      some [.counterOverflow 0b1111#4] := by decide

theorem test_reserved11xx :
    faultsOf (exec (.reserved11xx 0#2) (inPhase 0b1100#4 0xFFFE#16 0#16 31#6 true)) =
      some [.illegalState 0b1100#4] := by decide

/-! ### TICK: L2.1 -/

/-- T1, T3 and T6. -/
theorem test_tick_counts :
    (nextOf (exec (.tick true) (inPhase codeLdrOn 0#16 0#16 31#6 true))).map State.cnt = some 1#16 ∧
    nextOf (exec (.tick true) base) = some base ∧
    (nextOf (exec (.tick false) (inPhase codeStopOff 3646#16 0#16 31#6 true))).map State.cnt = some 3647#16 := by
  decide

/-- T7. -/
theorem test_tick_overflow :
    nextOf (exec (.tick true) (inPhase codeLdrOn 0xFFFF#16 0#16 31#6 false)) =
      some { inPhase codeLdrOn 0xFFFF#16 0#16 31#6 false with faults := [.counterOverflow 0b0001#4] } := by decide

/-! ### EFFECT rows: 43_external_interfaces.md R181 to R186, 30_encoding.md R76, R77 -/

theorem test_effNone : nextOf (exec .effNone base) = some base := by decide

theorem test_tmrReset :
    nextOf (exec .tmrReset base) = some { base with effects := [.tmrReset], tmrClr := true, tmrLeft := 3 } := by decide

theorem test_tmrArm :
    nextOf (exec (.tmrArm 210#8) base) = some { base with effects := [.tmrArm 210#8], armed := true, tmrEn := true } := by
  decide

theorem test_tmrDisarm :
    nextOf (exec .tmrDisarm { base with armed := true, tmrEn := true }) = some { base with effects := [.tmrDisarm] } := by
  decide

theorem test_pwmDuty :
    nextOf (exec (.pwmDuty 70#8) base) = some { base with effects := [.pwmDuty 70#8], duty := 70#8 } := by decide

theorem test_btnRead : nextOf (exec (.btnRead true) base) = some { base with effects := [.btnRead true] } := by decide

/-- "A model that is given one to replay refuses it" (30_encoding.md R77). -/
theorem test_reserved11x_refused : step { base with replay := [0b11000000001#11] } = .refused (.reservedEffect 1#9) :=
  rfl

/-! ### MICRO_OP rows: L2.2, L2.4 -/

theorem test_setGateOn :
    nextOf (exec .setGateOn base) = some { base with effects := [.pwmDuty 70#8], duty := 70#8 } := by decide

theorem test_setGateOff :
    nextOf (exec .setGateOff { base with duty := 70#8 }) = some { base with effects := [.pwmDuty 0#8] } := by decide

/-- A3. -/
theorem test_accumulateAndReset :
    regsOf (exec .accumulateAndReset (inPhase codeBit1Off 63#16 3200#16 0b111111#6 true)) =
      some (codeBit1Off, 0#16, 3264#16, 0#16, -1, false) := by decide

/-- A4. -/
theorem test_accumulateAndReset_overflow :
    faultsOf (exec .accumulateAndReset (inPhase codeBitOn 21#16 0xFFF0#16 0#6 true)) =
      some [.accOverflow codeBitOn 0xFFF0#16 22#17] := by decide

/-- F2, F3, F4 and F6. -/
theorem test_closeFrame :
    [427#16, 3264#16, 1888#16, 4073#16].map
        (fun acc => (nextOf (exec .closeFrame (inPhase codeStopOn 21#16 acc 31#6 true))).map
          fun t => (t.budget, t.acc, t.cnt)) =
      [some (3646#16, 0#16, 0#16), some (809#16, 0#16, 0#16), some (2185#16, 0#16, 0#16), some (0#16, 0#16, 0#16)] := by
  decide

/-- F5. -/
theorem test_closeFrame_underflow :
    faultsOf (exec .closeFrame (inPhase codeStopOn 21#16 4074#16 31#6 true)) = some [.budgetUnderflow 4096] := by decide

/-- R1: nothing accumulates. -/
theorem test_resetOnly :
    nextOf (exec .resetOnly (inPhase codeStopOff 1497#16 0#16 31#6 true)) =
      some (inPhase codeStopOff 0#16 0#16 31#6 true) := by decide

/-- T2: no tick, no change. -/
theorem test_stay :
    nextOf (exec .stay (inPhase codeBitOn 17#16 512#16 30#6 false)) = some (inPhase codeBitOn 17#16 512#16 30#6 false) := by
  decide

/-- B2. -/
theorem test_enterBit :
    (nextOf (exec .enterBit { base with cur := 25#6 })).map (fun t => (t.st, t.curbit, t.cur, t.effects)) =
      some (0b0011#4, true, 24#6, [.pwmDuty 70#8]) := by decide

/-- B3 and B4. -/
theorem test_enterBit_edges :
    (nextOf (exec .enterBit { base with cur := 0#6, dc := 1#32 })).map (fun t => (t.curbit, t.cur)) =
      some (true, 0b111111#6) ∧
    nextOf (exec .enterBit { base with cur := 0b111111#6 }) =
      some { base with cur := 0b111111#6, faults := [.cursorRange 0b111111#6] } := by decide

/-- X1, TERMINATE's part. -/
theorem test_terminate :
    nextOf (exec .terminate { inPhase codeStopOff 1498#16 7#16 0b111111#6 false with budget := 1497#16, curbit := true }) =
      some { base with budget := 1497#16, curbit := true, effects := [.tmrDisarm] } := by decide

/-! ### Steps: L2.8, L2.9 -/

/-- L2.8, cycle 1 and its next inputs: with CLK_PER_TICK = 3 the tick is still two cycles away. -/
theorem test_step_idle_exit :
    (nextOf (step { base with btnN := false })).map (fun t => (t.st, t.tick, t.tmrLeft, t.tickNo)) =
      some (codeLdrOn, false, 2, 0) := by decide

/-- R4, R5 and R6. -/
theorem test_step_reset_and_stuck :
    (nextOf (step { inPhase codeLdrOn 200#16 0#16 31#6 true with rst := true })).map
        (fun t => (t.st, t.cnt, t.duty, t.tmrEn)) = some (codeIdle, 0#16, 0#8, false) ∧
    faultsOf (step { inPhase 0b1001#4 0#16 0#16 31#6 true with faults := [.illegalState 0b1001#4], rst := true }) =
      some [] ∧
    (nextOf (step { inPhase codeLdrOn 340#16 0#16 31#6 true with faults := [.illegalState 0b1001#4] })).map
        (fun t => (t.st, t.cnt, t.duty, t.faults)) = some (codeLdrOn, 340#16, 70#8, [.illegalState 0b1001#4]) := by
  decide

/-- A script that presses at once and reaches LeaderOn (95_test_vectors.md L3, P1's first lines). -/
theorem test_script :
    (runScript 9 [.code 1#32, .press 0, .release 1, .runUntil codeLdrOn 1] base).map (fun t => (t.dc, t.st, t.btnN)) =
      some (1#32, codeLdrOn, false) := by decide

/-- With CLK_PER_TICK = 1 the cycle after the Idle exit counts tick 1, and a line given there for tick 1 acts in it
(30_encoding.md R84: "and it includes that cycle"). -/
theorem test_script_line_in_its_tick_cycle :
    (runScript 9 [.press 0, .runUntil codeLdrOn 1, .release 1] { base with clkPerTick := 1 }).map
      (fun t => (t.st, t.tick, t.btnN)) = some (codeLdrOn, true, true) := by decide

/-- A line acts in its own tick cycle wherever it stands (30_encoding.md R84): tick 1's, behind a line of tick 5. -/
theorem test_script_lines_need_no_order :
    dueEvents 1 false [{ at_ := 5, pressed := true }, { at_ := 1, pressed := false }] =
      (true, [{ at_ := 5, pressed := true }]) := by decide

/-- A faulted block is never the end of a run, though `st` holds the state (60_exceptions.md R202). -/
theorem test_script_fault_is_no_end :
    runScript 9 [.runUntil codeIdle 1] { base with faults := [.cursorRange 0b111111#6] } = none := by decide

/-- A `run` line holds the button and `rst` without any button line before it. -/
theorem test_script_run_holds_the_inputs :
    (runScript 2 [.runUntil codeIdle 1] { base with rst := true, button := .free }).map
      (fun t => (t.rst, t.btnN, t.button)) = some (false, true, .script []) := by decide

/-- A reset cycle that abandons a frame, and the one that clears a fault, are no end of a transmission
(70_reset_and_hazards.md R244, R245). -/
theorem test_reset_is_no_end :
    (nextOf (step { frameStart with rst := true })).map (transmissionEnded { frameStart with rst := true }) =
      some false ∧
    untilEnded 3 { frameStart with faults := [.illegalState codeIdle] } = none := by decide

/-- 95_test_vectors.md L2.6, S1 to S5. -/
theorem test_frame_totals :
    [0x02FD48B7#32, 0#32, 0xFFFFFFFF#32, 1#32, 0x80000000#32].map dataTotal = [2598, 1910, 3286, 1953, 1953] := by
  decide

/-- The waveform of P3's first and last symbols and of a repeat frame (95_test_vectors.md L3, P2, P3). -/
theorem test_waveform :
    (waveform (dataFrame 0#32)).take 4 = [.mark 341, .space 171, .mark 22, .space 21] ∧
    (waveform (dataFrame 0#32)).getLast? = some (.space 2186) ∧
    waveform repeatFrame = [.mark 341, .space 86, .mark 22, .space 3647] := by decide

/-! ### Witnesses: for each obligation with hypotheses, states and operands that meet them, clause by clause -/

theorem witness_EncodeDecodeRoundTrip :
    (Instr.tmrArm 210#8).wf = true ∧ (Instr.tmrArm 210#8).format ≠ .microOp := by decide

theorem witness_DecodedWordIsItsEncoding : decode (.effect 0b10100000001#11) = .ok (.btnRead true) := rfl

theorem witness_IdleRule :
    (countAfter base ≤ 0xFFFF ∧ base.btnN = true ∧ portsSettled base) ∧
    (countAfter { base with btnN := false, cnt := 0xFFFF#16 } ≤ 0xFFFF ∧ ({ base with btnN := false }).btnN = false) := by
  decide

/-- At the boundary counts of L2.3, and an injected `acc` for the fault. -/
theorem witness_LeaderOnRule :
    (∃ s, countAfter s = 340 ∧ portsSettled s) ∧
    (∃ s, countAfter s = 341 ∧ s.acc.toNat + countAfter s = 0xFFFF) ∧
    ∃ s, countAfter s = 341 ∧ s.acc.toNat + countAfter s = 0x10000 ∧ s.faults = [] ∧ s.tmrClr = false :=
  ⟨⟨inPhase codeLdrOn 339#16 0#16 31#6 true, by decide⟩,
    ⟨inPhase codeLdrOn 340#16 (0xFFFF#16 - 341#16) 31#6 true, by decide⟩,
    ⟨inPhase codeLdrOn 340#16 (0xFFFF#16 - 340#16) 31#6 true, by decide⟩⟩

theorem witness_LeaderOffRule :
    (∃ s, countAfter s = 170 ∧ portsSettled s) ∧
    (∃ s, countAfter s = 171 ∧ s.acc.toNat + countAfter s ≤ 0xFFFF ∧ s.cur.toInt = 0) ∧
    (∃ s, countAfter s = 171 ∧ s.acc.toNat + countAfter s = 0x10000 ∧ s.faults = [] ∧ s.tmrClr = false) ∧
    ∃ s, countAfter s = 171 ∧ s.acc.toNat + countAfter s = 0xFFFF ∧ s.cur.toInt = -1 ∧ s.faults = [] ∧ s.tmrClr = false :=
  ⟨⟨inPhase codeLdrOff 169#16 341#16 31#6 true, by decide⟩,
    ⟨inPhase codeLdrOff 170#16 341#16 0#6 true, by decide⟩,
    ⟨inPhase codeLdrOff 170#16 (0xFFFF#16 - 170#16) 31#6 true, by decide⟩,
    ⟨inPhase codeLdrOff 170#16 (0xFFFF#16 - 171#16) 0b111111#6 true, by decide⟩⟩

theorem witness_BitOnRule :
    (∃ s, countAfter s = 21 ∧ portsSettled s) ∧
    (∃ s, countAfter s = 22 ∧ s.acc.toNat + countAfter s = 0xFFFF) ∧
    ∃ s, countAfter s = 22 ∧ s.acc.toNat + countAfter s = 0x10000 ∧ s.faults = [] ∧ s.tmrClr = false :=
  ⟨⟨inPhase codeBitOn 20#16 512#16 30#6 true, by decide⟩,
    ⟨inPhase codeBitOn 21#16 (0xFFFF#16 - 22#16) 30#6 true, by decide⟩,
    ⟨inPhase codeBitOn 21#16 (0xFFFF#16 - 21#16) 30#6 true, by decide⟩⟩

theorem witness_BitZeroOffRule :
    (∃ s, countAfter s = 20 ∧ portsSettled s) ∧
    (∃ s, countAfter s = 21 ∧ s.acc.toNat + countAfter s ≤ 0xFFFF ∧ s.cur.toInt = -1) ∧
    (∃ s, countAfter s = 21 ∧ s.acc.toNat + countAfter s ≤ 0xFFFF ∧ s.cur.toInt = 0) ∧
    (∃ s, countAfter s = 21 ∧ s.acc.toNat + countAfter s = 0x10000 ∧ s.faults = [] ∧ s.tmrClr = false) ∧
    ∃ s, countAfter s = 21 ∧ s.acc.toNat + countAfter s ≤ 0xFFFF ∧ s.cur.toInt = -2 ∧ s.faults = [] ∧ s.tmrClr = false :=
  ⟨⟨inPhase codeBit0Off 19#16 534#16 30#6 true, by decide⟩,
    ⟨inPhase codeBit0Off 20#16 534#16 0b111111#6 true, by decide⟩,
    ⟨inPhase codeBit0Off 20#16 534#16 0#6 true, by decide⟩,
    ⟨inPhase codeBit0Off 20#16 (0xFFFF#16 - 20#16) 0#6 true, by decide⟩,
    ⟨inPhase codeBit0Off 20#16 534#16 0b111110#6 true, by decide⟩⟩

theorem witness_BitOneOffRule :
    (∃ s, countAfter s = 63 ∧ portsSettled s) ∧
    (∃ s, countAfter s = 64 ∧ s.acc.toNat + countAfter s ≤ 0xFFFF ∧ s.cur.toInt = -1) ∧
    (∃ s, countAfter s = 64 ∧ s.acc.toNat + countAfter s ≤ 0xFFFF ∧ s.cur.toInt = 0) ∧
    (∃ s, countAfter s = 64 ∧ s.acc.toNat + countAfter s = 0x10000 ∧ s.faults = [] ∧ s.tmrClr = false) ∧
    ∃ s, countAfter s = 64 ∧ s.acc.toNat + countAfter s ≤ 0xFFFF ∧ s.cur.toInt = -2 ∧ s.faults = [] ∧ s.tmrClr = false :=
  ⟨⟨inPhase codeBit1Off 62#16 534#16 30#6 true, by decide⟩,
    ⟨inPhase codeBit1Off 63#16 534#16 0b111111#6 true, by decide⟩,
    ⟨inPhase codeBit1Off 63#16 534#16 0#6 true, by decide⟩,
    ⟨inPhase codeBit1Off 63#16 (0xFFFF#16 - 63#16) 0#6 true, by decide⟩,
    ⟨inPhase codeBit1Off 63#16 534#16 0b111110#6 true, by decide⟩⟩

theorem witness_StopOnRule :
    (∃ s, countAfter s = 21 ∧ portsSettled s) ∧
    (∃ s, countAfter s = 22 ∧ s.acc.toNat + countAfter s = 4095) ∧
    ∃ s, countAfter s = 22 ∧ s.acc.toNat + countAfter s = 4096 ∧ s.faults = [] ∧ s.tmrClr = false :=
  ⟨⟨inPhase codeStopOn 20#16 2576#16 31#6 true, by decide⟩,
    ⟨inPhase codeStopOn 21#16 4073#16 31#6 true, by decide⟩,
    ⟨inPhase codeStopOn 21#16 4074#16 31#6 true, by decide⟩⟩

theorem witness_StopOffRule :
    (∃ s, countAfter s = s.budget.toNat ∧ portsSettled s) ∧
    (∃ s, countAfter s = s.budget.toNat + 1 ∧ countAfter s ≤ 0xFFFF ∧ s.btnN = false) ∧
    ∃ s, countAfter s = s.budget.toNat + 1 ∧ countAfter s ≤ 0xFFFF ∧ s.btnN = true :=
  ⟨⟨{ inPhase codeStopOff 1496#16 0#16 31#6 true with budget := 1497#16 }, by decide⟩,
    ⟨{ inPhase codeStopOff 1497#16 0#16 31#6 true with budget := 1497#16, btnN := false }, by decide⟩,
    ⟨{ inPhase codeStopOff 1497#16 0#16 31#6 true with budget := 1497#16 }, by decide⟩⟩

theorem witness_RepeatOnRule :
    (∃ s, countAfter s = 340 ∧ portsSettled s) ∧
    (∃ s, countAfter s = 341 ∧ s.acc.toNat + countAfter s = 0xFFFF) ∧
    ∃ s, countAfter s = 341 ∧ s.acc.toNat + countAfter s = 0x10000 ∧ s.faults = [] ∧ s.tmrClr = false :=
  ⟨⟨inPhase codeRptOn 339#16 0#16 31#6 true, by decide⟩,
    ⟨inPhase codeRptOn 340#16 (0xFFFF#16 - 341#16) 31#6 true, by decide⟩,
    ⟨inPhase codeRptOn 340#16 (0xFFFF#16 - 340#16) 31#6 true, by decide⟩⟩

theorem witness_RepeatOffRule :
    (∃ s, countAfter s = 85 ∧ portsSettled s) ∧
    (∃ s, countAfter s = 86 ∧ s.acc.toNat + countAfter s = 0xFFFF) ∧
    ∃ s, countAfter s = 86 ∧ s.acc.toNat + countAfter s = 0x10000 ∧ s.faults = [] ∧ s.tmrClr = false :=
  ⟨⟨inPhase codeRptOff 84#16 341#16 31#6 true, by decide⟩,
    ⟨inPhase codeRptOff 85#16 (0xFFFF#16 - 86#16) 31#6 true, by decide⟩,
    ⟨inPhase codeRptOff 85#16 (0xFFFF#16 - 85#16) 31#6 true, by decide⟩⟩

theorem witness_ReservedCodesRecordIllegalState :
    ∃ s : State, countAfter s = 0xFFFF ∧ s.faults = [] ∧ s.tmrClr = false ∧ s.st = 0b1100#4 :=
  ⟨inPhase 0b1100#4 0xFFFE#16 0#16 31#6 true, by decide⟩

theorem witness_CounterOverflowComesFirst :
    ∃ s : State, countAfter s = 0x10000 ∧ s.faults = [] ∧ s.tmrClr = false ∧
      (Instr.reserved11xx 3#2).format = .state ∧ Instr.stay ∈ [Instr.accumulateAndReset, .closeFrame, .stay] :=
  ⟨inPhase 0b1111#4 0xFFFF#16 0#16 31#6 true, by decide⟩

theorem witness_CursorRangeDiscardsTheExit :
    (∃ s : State, s.faults = [] ∧ countAfter s = 171 ∧ s.acc.toNat + countAfter s ≤ 0xFFFF ∧ s.cur.toInt = -1) ∧
    (∃ s : State, s.faults = [] ∧ countAfter s = 21 ∧ s.acc.toNat + countAfter s ≤ 0xFFFF ∧ s.cur.toInt = -2) ∧
    ∃ s : State, s.faults = [] ∧ countAfter s = 64 ∧ s.acc.toNat + countAfter s ≤ 0xFFFF ∧ s.cur.toInt = -2 :=
  ⟨⟨inPhase codeLdrOff 170#16 341#16 0b111111#6 true, by decide⟩,
    ⟨inPhase codeBit0Off 20#16 534#16 0b111110#6 true, by decide⟩,
    ⟨inPhase codeBit1Off 63#16 534#16 0b111110#6 true, by decide⟩⟩

/-- The Idle exit, the cycle after it, a cycle that raises a fault, and a cycle of a stuck block. -/
theorem witness_StrobeIsUpAfterAnIdleExitAlone :
    (Instr.idle.format = .state ∧ base.faults = []) ∧
    (nextOf (exec .idle { base with btnN := false })).map (fun t => (t.faults, t.tmrClr)) = some ([], true) ∧
    (nextOf (exec .ldrOn { frameStart with tmrClr := true })).map (fun t => (t.faults, t.tmrClr)) = some ([], false) ∧
    (nextOf (exec .reserved1001 { base with tmrClr := true })).map (fun t => (t.faults, t.tmrClr)) =
      some ([.illegalState codeIdle], true) ∧
    ∃ s : State, s.rst = false ∧ s.faults ≠ [] ∧ s.tmrClr = true ∧ (nextOf (step s)).map State.tmrClr = some true :=
  ⟨by decide, by decide, by decide, by decide,
    { base with tmrClr := true, faults := [.illegalState codeIdle] }, by decide, by decide, by decide, by decide⟩

/-- The last cycle of a phase's stay and its exit cycle. -/
theorem witness_PhaseExitsWhenTheCountPassesTheThreshold :
    (∃ s : State, FrameInv s ∧ threshold s.st s.budget = some 1497#16 ∧ countAfter s = 1497 ∧
      (nextOf (exec (decodeState s.st) s)).isSome) ∧
    ∃ s : State, FrameInv s ∧ threshold s.st s.budget = some 1497#16 ∧ countAfter s = 1498 ∧
      (nextOf (exec (decodeState s.st) s)).map State.st = some codeIdle :=
  ⟨⟨{ frameEnd true with tick := false }, by decide, by decide⟩, ⟨frameEnd true, by decide, by decide⟩⟩

theorem witness_TickRule :
    (∃ s : State, s.armed = true ∧ s.cnt.toNat = 0xFFFE) ∧ (∃ s : State, s.armed = false) ∧
    ∃ s : State, s.armed = true ∧ s.cnt.toNat = 0xFFFF ∧ s.faults = [] :=
  ⟨⟨inPhase codeLdrOn 0xFFFE#16 0#16 31#6 true, by decide⟩, ⟨base, by decide⟩,
    ⟨inPhase codeLdrOn 0xFFFF#16 0#16 31#6 true, by decide⟩⟩

theorem witness_GateOperationsRule :
    ∃ s : State, s.duty = (if gate s then 70#8 else 0#8) ∧ faultsOf (exec (decodeState s.st) s) = some [] ∧
      effectsOf (exec (decodeState s.st) s) = some [.pwmDuty 0#8] :=
  ⟨{ frameStart with tick := true, cnt := 340#16 }, by decide, by decide, by decide⟩

theorem witness_DutyRatioIsOneThird :
    effectsOf (exec (decodeState base.st) { base with btnN := false }) =
      some [.btnRead true, .tmrReset, .tmrArm 210#8, .pwmDuty 70#8] := by decide

theorem witness_AccumulateAndResetRule :
    (∃ s : State, s.acc.toNat + countAfter s = 0xFFFF) ∧
    ∃ s : State, countAfter s ≤ 0xFFFF ∧ s.acc.toNat + countAfter s = 0x10000 ∧ s.faults = [] :=
  ⟨⟨inPhase codeBitOn 21#16 (0xFFFF#16 - 22#16) 30#6 true, by decide⟩,
    ⟨inPhase codeBitOn 21#16 (0xFFFF#16 - 21#16) 30#6 true, by decide⟩⟩

theorem witness_CloseFrameRule :
    (∃ s : State, s.acc.toNat + countAfter s = 4095) ∧
    ∃ s : State, countAfter s ≤ 0xFFFF ∧ s.acc.toNat + countAfter s = 4096 ∧ s.faults = [] :=
  ⟨⟨inPhase codeStopOn 21#16 4073#16 31#6 true, by decide⟩, ⟨inPhase codeStopOn 21#16 4074#16 31#6 true, by decide⟩⟩

theorem witness_StayRule : ∃ s : State, countAfter s = 0xFFFF :=
  ⟨inPhase codeStopOff 0xFFFE#16 0#16 31#6 true, by decide⟩

theorem witness_EnterBitRule :
    (∃ s : State, s.cur.toInt = 0) ∧ (∃ s : State, s.cur.toInt = 31) ∧ ∃ s : State, s.cur.toInt = -1 ∧ s.faults = [] :=
  ⟨⟨{ base with cur := 0#6 }, by decide⟩, ⟨base, by decide⟩, ⟨{ base with cur := 0b111111#6 }, by decide⟩⟩

theorem witness_ResetInputReloadsTheBlock :
    ({ base with rst := true, faults := [.cursorRange 0b111111#6] }).rst = true := by decide

theorem witness_FaultedBlockIsStuck :
    ∃ s : State, s.rst = false ∧ s.faults ≠ [] := ⟨{ base with faults := [.cursorRange 0b111111#6] }, by decide⟩

theorem witness_StepRunsTheStateRule :
    base.rst = false ∧ base.faults = [] ∧ base.replay = [] ∧ decode (.state base.st) = .ok .idle :=
  ⟨rfl, rfl, rfl, rfl⟩

theorem witness_StepReplaysEffectRecords :
    (∃ s : State, s.rst = false ∧ s.faults = [] ∧ s.replay = [0b00100000000#11] ∧
      decode (.effect 0b00100000000#11) = .ok .tmrReset) ∧
    ∃ s : State, s.rst = false ∧ s.faults = [] ∧ s.replay = [0b00100000001#11] ∧
      decode (.effect 0b00100000001#11) = .error .badArgument :=
  ⟨⟨{ base with replay := [0b00100000000#11] }, rfl, rfl, rfl, rfl⟩,
    ⟨{ base with replay := [0b00100000001#11] }, rfl, rfl, rfl, rfl⟩⟩

theorem witness_StepKeepsFrameInv : FrameInv (frameEnd true) ∧ FrameInv frameStart ∧ FrameInv base :=
  ⟨by decide, by decide, by decide⟩

/-- The largest counts: 3647 in a repeat frame's StopOff, 341 elsewhere, 0 in Idle. -/
theorem witness_CountNeverExceedsThreeThousandSixHundredFortySeven :
    (∃ s, FrameInv s ∧ countAfter s = 3647) ∧
    (∃ s, FrameInv s ∧ s.st ≠ codeStopOff ∧ countAfter s = 341) ∧ ∃ s, FrameInv s ∧ s.st = codeIdle :=
  ⟨⟨{ inPhase codeStopOff 3646#16 0#16 31#6 true with budget := 3646#16, tickNo := 8191 }, by decide⟩,
    ⟨{ inPhase codeLdrOn 340#16 0#16 31#6 true with tickNo := 340 }, by decide⟩, ⟨base, by decide⟩⟩

/-- StopOn's exit in the data frame of 0x02FD48B7 and in a repeat frame. -/
theorem witness_FrameTotalClosedForm :
    (∃ s : State, FrameInv s ∧ s.st = codeStopOn ∧ s.cur.toInt = -1 ∧
      (nextOf (exec .stopOn s)).map State.st = some codeStopOff) ∧
    ∃ s : State, FrameInv s ∧ s.st = codeStopOn ∧ s.cur = 31#6 ∧
      (nextOf (exec .stopOn s)).map State.st = some codeStopOff :=
  ⟨⟨{ inPhase codeStopOn 21#16 2576#16 0b111111#6 true with tickNo := 2597 }, by decide, by decide⟩,
    ⟨{ inPhase codeStopOn 21#16 427#16 31#6 true with tickNo := 4544 }, by decide, by decide⟩⟩

theorem witness_FramesLastFourThousandNinetySixTicks :
    ∃ (s : State) (inputs : List (Bool × Bool)), FrameInv s ∧ s.st = codeLdrOn ∧ s.cnt = 0#16 ∧
      tickCount inputs = 4095 :=
  ⟨frameStart, List.replicate 4095 (true, true), by decide, rfl, rfl, List.countP_replicate⟩

/-- BIT0_OFF's entry in the first bit, with 20 ticks to come. -/
theorem witness_PhaseLastsThresholdPlusOneTicks :
    ∃ (s : State) (th : BitVec 16) (inputs : List (Bool × Bool)), FrameInv s ∧ s.cnt = 0#16 ∧
      threshold s.st s.budget = some th ∧ tickCount inputs = th.toNat :=
  ⟨{ inPhase codeBit0Off 0#16 534#16 30#6 false with tickNo := 534 }, 20#16,
    (false, true) :: List.replicate 20 (true, false), by decide⟩

/-- A frame of each kind, and Idle with the button released. -/
theorem witness_DataFrameIsTheNecWaveform :
    (FrameInv frameStart ∧ frameStart.st = codeLdrOn ∧ frameStart.cnt = 0#16) ∧
    (FrameInv repeatStart ∧ repeatStart.st = codeRptOn ∧ repeatStart.cnt = 0#16) ∧
    tickCount (List.replicate 4096 (true, true)) = 4096 ∧
    FrameInv base ∧ base.st = codeIdle ∧ base.btnN = true :=
  ⟨by decide, by decide, List.countP_replicate, by decide, by decide, by decide⟩

/-- One frame with any button, and two with it asserted at the exit between them. -/
theorem witness_RepeatFrameIsTheRepeatCode :
    (FrameInv repeatStart ∧ repeatStart.st = codeRptOn ∧ repeatStart.cnt = 0#16) ∧
    tickCount (List.replicate 4096 (true, true)) = 4096 * 1 ∧
    tickCount (List.replicate 8192 (true, false)) = 4096 * 2 ∧
    ∀ j, 1 ≤ j → j < 2 → buttonAtTick (4096 * j) (List.replicate 8192 (true, false)) = some false := by
  refine ⟨by decide, List.countP_replicate, List.countP_replicate, fun j h1 h2 => ?_⟩
  have hj : 4096 * j - 1 < 8192 := by omega
  have hf : (List.replicate 8192 (true, false)).filter (fun v : Bool × Bool => v.1) = List.replicate 8192 (true, false) :=
    List.filter_replicate_of_pos rfl
  rw [buttonAtTick, hf, List.getElem?_replicate, if_pos hj, Option.map_some]

/-- Both levels of the button at the end of a frame, and a cycle of a phase that samples nothing. -/
theorem witness_ButtonIsSampledEveryFourThousandNinetySixTicks :
    (∀ b, FrameInv (frameEnd b)) ∧
    (∀ b, (frameEnd b).rst = false ∧ (frameEnd b).st ≠ codeIdle ∧ (frameEnd b).tick = true ∧
      (nextOf (step (frameEnd b))).map (fun t => t.tickNo % 4096) = some 0) ∧
    FrameInv frameStart ∧ frameStart.st ≠ codeIdle ∧ (nextOf (step frameStart)).isSome :=
  ⟨by decide, by decide, by decide, by decide, by decide⟩

theorem witness_NoPhaseExitsInTheCycleAfterItsEntry :
    FrameInv (frameEnd false) ∧ (nextOf (step (frameEnd false))).map State.st = some codeRptOn ∧
    ((nextOf (step (frameEnd false))).bind fun t => nextOf (step (present true true t))).map State.st =
      some codeRptOn := by decide

/-- A cycle that reads the button, and the two kinds that do not, the second at the last count of StopOff's stay. -/
theorem witness_ButtonIsIgnoredElsewhere :
    ((frameEnd true).faults = [] ∧ faultsOf (exec (decodeState (frameEnd true).st) (frameEnd true)) = some []) ∧
    (∃ s : State, s.st ≠ codeIdle ∧ s.st ≠ codeStopOff ∧ (nextOf (exec (decodeState s.st) s)).isSome) ∧
    ∃ s : State, s.st = codeStopOff ∧ countAfter s = s.budget.toNat ∧ (nextOf (exec (decodeState s.st) s)).isSome :=
  ⟨by decide, ⟨frameStart, by decide⟩, ⟨{ frameEnd true with tick := false }, by decide⟩⟩

theorem witness_NoStepWritesTheConstants : (nextOf (step base)).isSome := by decide

/-- A tick event meets the side conditions of all clauses but `cnt`'s, a reserved row those of all. -/
theorem witness_OnlyTheNamedRulesWriteARegister :
    ∀ i ∈ [Instr.tick true, .reserved1001], (nextOf (exec i frameStart)).isSome ∧ i ∉ [.stopOn, .closeFrame] ∧
      i ∉ [.ldrOff, .bit0Off, .bit1Off, .enterBit] ∧
      i ∉ [.idle, .stopOff, .ldrOff, .bit0Off, .bit1Off, .enterBit, .terminate] ∧
      i ∉ [.idle, .stopOff, .terminate, .tmrDisarm] ∧ (∀ p, i ≠ .tmrArm p) ∧ (i.format = .input ∨ isReserved i) := by
  intro i hi
  simp only [List.mem_cons, List.not_mem_nil, or_false] at hi
  rcases hi with rfl | rfl <;>
    exact ⟨by decide, by decide, by decide, by decide, by decide, by simp, by simp [Instr.format, isReserved]⟩

theorem witness_TransitionsFlipTheGate :
    (nextOf (exec (decodeState (frameEnd true).st) (frameEnd true))).map State.st = some codeIdle ∧
    (nextOf (exec (decodeState (frameEnd false).st) (frameEnd false))).map State.st = some codeRptOn := by decide

theorem witness_EffectsComeInTheirOrder :
    Instr.idle.format = .state ∧ (effectsOf (exec .idle { base with btnN := false })).map List.length = some 4 := by
  decide

theorem witness_EffectsMoveThePorts :
    portsAgree (frameEnd false) ∧ (frameEnd false).faults = [] ∧
    faultsOf (exec (decodeState (frameEnd false).st) (frameEnd false)) = some [] := by decide

theorem witness_FaultRecordOnlyGrows :
    (∃ f, f ∈ ({ base with faults := [.cursorRange 0b111111#6] }).faults ∧
      (nextOf (exec .enterBit { base with faults := [.cursorRange 0b111111#6] })).isSome) ∧
    ({ base with faults := [.cursorRange 0b111111#6] }).rst = false ∧
    (nextOf (step { base with faults := [.cursorRange 0b111111#6] })).isSome :=
  ⟨⟨.cursorRange 0b111111#6, by decide⟩, by decide⟩

theorem witness_StepsAreNeverStopped : base.replay = [] := rfl

theorem witness_TicksComeOnlyWhileEnabled :
    TimerInv frameStart ∧ frameStart.replay = [] ∧ (nextOf (step frameStart)).isSome := by decide

/-- The first cycle and the one whose successor has the first tick, for CLK_PER_TICK = 3. -/
theorem witness_FirstTickComesOnePeriodAfterArming :
    ∃ s : State, FrameInv s ∧ s.st = codeIdle ∧ s.rst = false ∧ s.btnN = false ∧ s.button = .script [] ∧
      1 ≤ s.clkPerTick ∧ s.clkPerTick = 3 :=
  ⟨{ base with btnN := false }, by decide⟩

/-- A line due in the next tick cycle behind one due a tick later, two lines of one t, and no line due. -/
theorem witness_ScriptLineActsInItsTickCycle :
    (∃ (s t : State) (e d : ButtonEvent), t.button = .script [d, e] ∧ e.at_ = tickNoComing s t ∧
      tickNoComing s t < d.at_) ∧
    (∃ (s t : State) (e d : ButtonEvent), t.button = .script [d, e] ∧ e.at_ = tickNoComing s t ∧ d.at_ = e.at_) ∧
    ∃ (s t : State) (e d : ButtonEvent), t.button = .script [d, e] ∧ tickNoComing s t < d.at_ ∧
      tickNoComing s t < e.at_ :=
  ⟨⟨frameStart, { frameStart with
      tmrLeft := 1, button := .script [{ at_ := 2, pressed := true }, { at_ := 1, pressed := false }] },
      { at_ := 1, pressed := false }, { at_ := 2, pressed := true }, by decide⟩,
    ⟨frameStart, { frameStart with
      tmrLeft := 1, button := .script [{ at_ := 1, pressed := true }, { at_ := 1, pressed := false }] },
      { at_ := 1, pressed := false }, { at_ := 1, pressed := true }, by decide⟩,
    ⟨frameStart, { frameStart with
      tmrLeft := 2, button := .script [{ at_ := 2, pressed := true }, { at_ := 1, pressed := false }] },
      { at_ := 1, pressed := false }, { at_ := 2, pressed := true }, by decide⟩⟩

/-- A transmission's last cycle, and a quiescent state. -/
theorem witness_TransmissionsEndByTerminateAlone :
    ((nextOf (step (frameEnd true))).map fun t => transmissionEnded (frameEnd true) t) = some true ∧
    FrameInv base ∧ quiescent base ∧ base.rst = false :=
  ⟨by decide, by decide, by decide, by decide⟩

end Sys2Proof.Tests
end

section
/-! PROOF. What the EFFECT, INPUT and MICRO_OP rows do when they run alone, the frame of each register over all
operations, and the obligations about the state's table: its constants (10_state.md R29), the writers of each register
(R37), the fault record (R31) and the reset values (R35). -/

namespace Sys2Proof.Proofs

open Sys2Proof.Machine Sys2Proof.Safety Sys2Proof.Laws

/-! ### Operations run alone -/

/-- What an operation that is no STATE row does: the row and the state it leads to, the counterpart of `StateCycle`.
RESERVED_11X is refused, so it leads nowhere. -/
inductive LoneOp (s : State) : Instr → State → Prop
  | fault (i : Instr) (f : Fault) : LoneOp s i (raiseFault f s)
  | tick (btnN : Bool) : LoneOp s (.tick btnN) (stayWith (cntNext { s with tick := true }) s)
  | effNone : LoneOp s .effNone s
  | tmrReset : LoneOp s .tmrReset (emit .tmrReset s)
  | tmrArm (p : BitVec 8) : LoneOp s (.tmrArm p) (armTimer p s)
  | tmrDisarm : LoneOp s .tmrDisarm (disarmTimer s)
  | pwmDuty (n : BitVec 8) : LoneOp s (.pwmDuty n) (emit (.pwmDuty n) s)
  | btnRead (asserted : Bool) : LoneOp s (.btnRead asserted) (emit (.btnRead asserted) s)
  | setGateOn : LoneOp s .setGateOn (gateOn s)
  | setGateOff : LoneOp s .setGateOff (gateOff s)
  | accumulate (a : BitVec 16) : LoneOp s .accumulateAndReset { s with acc := a, cnt := 0#16 }
  | close (b : BitVec 16) : LoneOp s .closeFrame { s with budget := b, acc := 0#16, cnt := 0#16 }
  | resetOnly : LoneOp s .resetOnly (clearCount s)
  | stay : LoneOp s .stay (stayWith (cntNext s) s)
  | enterBit : LoneOp s .enterBit (gateOn { s with
      curbit := s.dc.getLsbD s.cur.toInt.toNat, cur := s.cur - 1#6, st := codeBitOn })
  | terminate : LoneOp s .terminate (endTransmission s)

theorem loneOp_of_orRaise {r : Except Fault State} {s t : State} {i : Instr} (h : orRaise s r = .next t)
    (hr : ∀ u, r = .ok u → LoneOp s i u) : LoneOp s i t := by
  cases r with
  | ok u => cases h; exact hr t rfl
  | error f => cases h; exact .fault i f

/-- A part of a cycle that raised nothing ran on `cnt'`. -/
theorem withTick_inv {k : BitVec 17 → Except Fault State} {s u : State} (h : withTick s k = .ok u) :
    k (cntNext s) = .ok u := by
  unfold withTick at h
  split at h
  · cases h
  · exact h

/-- Everything an operation that is no STATE row can do. -/
theorem exec_lone_cases {i : Instr} {s t : State} (hi : i.format ≠ .state) (h : exec i s = .next t) :
    LoneOp s i t := by
  cases i with
  | idle | ldrOn | ldrOff | bitOn | bit0Off | stopOn | bit1Off | rptOn | stopOff | rptOff | reserved1001
  | reserved1011 | reserved11xx => exact absurd rfl hi
  | reserved11x => cases h
  | effNone => cases h; exact .effNone
  | tmrReset => cases h; exact .tmrReset
  | tmrArm p => cases h; exact .tmrArm p
  | tmrDisarm => cases h; exact .tmrDisarm
  | pwmDuty n => cases h; exact .pwmDuty n
  | btnRead asserted => cases h; exact .btnRead asserted
  | setGateOn => cases h; exact .setGateOn
  | setGateOff => cases h; exact .setGateOff
  | resetOnly => cases h; exact .resetOnly
  | terminate => cases h; exact .terminate
  | tick btnN => exact loneOp_of_orRaise h fun u hu => by cases withTick_inv hu; exact .tick btnN
  | stay => exact loneOp_of_orRaise h fun u hu => by cases withTick_inv hu; exact .stay
  | accumulateAndReset =>
    exact loneOp_of_orRaise h fun u hu => by obtain ⟨a, rfl⟩ := accumulate_inv (withTick_inv hu); exact .accumulate a
  | closeFrame =>
    exact loneOp_of_orRaise h fun u hu => by obtain ⟨b, rfl⟩ := closeWith_inv (withTick_inv hu); exact .close b
  | enterBit => exact loneOp_of_orRaise h fun u hu => by rw [startBit_inv hu]; exact .enterBit

/-- Everything an operation can do: a cycle of a STATE row, or one operation alone. -/
theorem exec_cases {i : Instr} {s t : State} (h : exec i s = .next t) : StateCycle s i t ∨ LoneOp s i t := by
  by_cases hi : i.format = .state
  · exact .inl (exec_state_cases hi h)
  · exact .inr (exec_lone_cases hi h)

/-! ### The frame of each register -/

theorem exec_dc {i : Instr} {s t : State} (h : exec i s = .next t) : t.dc = s.dc := by
  rcases exec_cases h with hc | hc <;> cases hc <;> rfl

theorem exec_clkPerTick {i : Instr} {s t : State} (h : exec i s = .next t) : t.clkPerTick = s.clkPerTick := by
  rcases exec_cases h with hc | hc <;> cases hc <;> rfl

/-- An operation leaves the fault record as it was or adds one fault to it. -/
theorem exec_faults {i : Instr} {s t : State} (h : exec i s = .next t) :
    t.faults = s.faults ∨ ∃ f, t.faults = recordFault s.faults f := by
  rcases exec_cases h with hc | hc
  · cases hc with
    | fault _ f => exact .inr ⟨f, rfl⟩
    | _ => exact .inl rfl
  · cases hc with
    | fault _ f => exact .inr ⟨f, rfl⟩
    | _ => exact .inl rfl

theorem mem_faults_of_exec {i : Instr} {s t : State} {f : Fault} (h : exec i s = .next t) (hf : f ∈ s.faults) :
    f ∈ t.faults := by
  rcases exec_faults h with he | ⟨g, he⟩ <;> rw [he]
  · exact hf
  · exact mem_recordFault_of_mem hf

theorem exec_budget {i : Instr} {s t : State} (h : exec i s = .next t) (hi : i ∉ [.stopOn, .closeFrame]) :
    t.budget = s.budget := by
  rcases exec_cases h with hc | hc
  · cases hc with
    | close b => simp at hi
    | _ => rfl
  · cases hc with
    | close b => simp at hi
    | _ => rfl

theorem exec_curbit {i : Instr} {s t : State} (h : exec i s = .next t)
    (hi : i ∉ [.ldrOff, .bit0Off, .bit1Off, .enterBit]) : t.curbit = s.curbit := by
  rcases exec_cases h with hc | hc
  · cases hc with
    | bit _ _ hb => simp_all
    | _ => rfl
  · cases hc with
    | enterBit => simp at hi
    | _ => rfl

theorem exec_cur {i : Instr} {s t : State} (h : exec i s = .next t)
    (hi : i ∉ [.idle, .stopOff, .ldrOff, .bit0Off, .bit1Off, .enterBit, .terminate]) : t.cur = s.cur := by
  rcases exec_cases h with hc | hc
  · cases hc with
    | idleExit | again | done => simp at hi
    | bit _ _ hb => simp_all
    | _ => rfl
  · cases hc with
    | enterBit | terminate => simp at hi
    | _ => rfl

theorem exec_armed {i : Instr} {s t : State} (h : exec i s = .next t)
    (hi : i ∉ [.idle, .stopOff, .terminate, .tmrDisarm]) (hp : ∀ p, i ≠ .tmrArm p) : t.armed = s.armed := by
  rcases exec_cases h with hc | hc
  · cases hc with
    | idleExit | done => simp at hi
    | _ => rfl
  · cases hc with
    | tmrDisarm | terminate => simp at hi
    | tmrArm p => exact absurd rfl (hp p)
    | _ => rfl

/-- A reserved row only records a fault, and an operation of another format than STATE runs alone. -/
theorem exec_reserved_or_lone {i : Instr} {s t : State} {l : List Instr} (h : exec i s = .next t)
    (hl : ∀ j ∈ l, j.format = .microOp)
    (hi : i.format = .effect ∨ i.format = .input ∨ isReserved i ∨ i ∈ l) :
    (∃ f, t = raiseFault f { s with effects := [] }) ∨ LoneOp s i t := by
  rcases hi with hi | hi | hi | hi
  · exact .inr (exec_lone_cases (by simp [hi]) h)
  · exact .inr (exec_lone_cases (by simp [hi]) h)
  · exact .inl (exec_reserved hi h)
  · exact .inr (exec_lone_cases (by simp [hl i hi]) h)

theorem exec_st {i : Instr} {s t : State} (h : exec i s = .next t)
    (hi : i.format = .effect ∨ i.format = .input ∨ isReserved i ∨
      i ∈ [.setGateOn, .setGateOff, .accumulateAndReset, .closeFrame, .resetOnly, .stay]) : t.st = s.st := by
  rcases exec_reserved_or_lone h (by decide) hi with ⟨f, rfl⟩ | hc
  · rfl
  · cases hc with
    | enterBit | terminate => simp [Instr.format, isReserved] at hi
    | _ => rfl

theorem exec_acc {i : Instr} {s t : State} (h : exec i s = .next t)
    (hi : i.format = .effect ∨ i.format = .input ∨ isReserved i ∨
      i ∈ [.setGateOn, .setGateOff, .resetOnly, .stay, .enterBit]) : t.acc = s.acc := by
  rcases exec_reserved_or_lone h (by decide) hi with ⟨f, rfl⟩ | hc
  · rfl
  · cases hc with
    | accumulate | close | terminate => simp [Instr.format, isReserved] at hi
    | _ => rfl

theorem exec_cnt {i : Instr} {s t : State} (h : exec i s = .next t)
    (hi : i.format = .effect ∨ isReserved i ∨ i ∈ [.setGateOn, .setGateOff, .enterBit]) : t.cnt = s.cnt := by
  rcases exec_reserved_or_lone h (by decide) (hi.imp_right .inr) with ⟨f, rfl⟩ | hc
  · rfl
  · cases hc with
    | tick | accumulate | close | resetOnly | stay | terminate => simp [Instr.format, isReserved] at hi
    | _ => rfl

/-! ### The obligations -/

/-- Settles O51: one frame lemma per register, each off the two inversion lemmas of `exec`. -/
theorem onlyTheNamedRulesWriteARegister : Obligations.OnlyTheNamedRulesWriteARegister := by
  intro i s t h
  exact ⟨exec_budget h, exec_curbit h, exec_cur h, exec_armed h, exec_st h, exec_acc h, exec_cnt h, exec_dc h⟩

/-- Settles O50: neither a reset or stuck cycle, nor an operation, in a cycle or replayed, writes the constants. -/
theorem noStepWritesTheConstants : Obligations.NoStepWritesTheConstants := by
  intro s t h
  rcases step_cases h with ⟨-, rfl⟩ | ⟨-, -, rfl⟩ | ⟨-, -, -, u, hu, rfl⟩ | ⟨-, -, rec, rest, i, -, -, hx⟩
  · exact ⟨rfl, rfl⟩
  · exact ⟨rfl, rfl⟩
  · simp [exec_dc hu, exec_clkPerTick hu]
  · simp [exec_dc hx, exec_clkPerTick hx]

/-- Settles O55: an operation only adds to the record, and a step without `rst` is an operation or a stuck cycle. -/
theorem faultRecordOnlyGrows : Obligations.FaultRecordOnlyGrows := by
  refine ⟨fun i s t f h hf => mem_faults_of_exec h hf, fun s t f hrst h hf => ?_⟩
  rcases step_cases h with ⟨hr, -⟩ | ⟨-, -, rfl⟩ | ⟨-, -, -, u, hu, rfl⟩ | ⟨-, -, rec, rest, i, -, -, hx⟩
  · rw [hrst] at hr
    cases hr
  · exact hf
  · rw [advance_faults]
    exact mem_faults_of_exec hu hf
  · exact mem_faults_of_exec hx hf

/-- Settles O32: each field of `State.reset`, and the gate wire of Idle's code. -/
theorem resetStateIsTheSpecs : Obligations.ResetStateIsTheSpecs :=
  ⟨rfl, rfl, rfl, rfl, rfl, rfl, rfl, rfl, rfl, rfl, rfl, rfl⟩

end Sys2Proof.Proofs
end

section
/-! PROOF. The obligations about the encodings (30_encoding.md): the reserved effect op codes (R77), the threshold
operand (R80), the gate wire (R72) and the button lines of a stimulus script (R84). -/

namespace Sys2Proof.Proofs

open Sys2Proof.Machine Sys2Proof.Laws

/-! ### The reserved effect op codes -/

/-- With bits [10:9] set, the op code is 110 or 111. -/
theorem effectOp_reserved_ge (low : BitVec 9) : 6 ≤ (effectOp (0b11#2 ++ low)).toNat := by
  have hword : (0b11#2 ++ low).toNat = 1536 + low.toNat :=
    (BitVec.toNat_append ..).trans (Nat.shiftLeft_add_eq_or_of_lt low.isLt 3).symm
  simp only [effectOp, BitVec.extractLsb'_toNat, hword, Nat.shiftRight_eq_div_pow]
  omega

/-- Both reserved op codes, whatever the nine free bits (30_encoding.md R77). -/
theorem decodeEffect_of_op_ge {rec : BitVec 11} (h : 6 ≤ (effectOp rec).toNat) :
    decodeEffect rec = .ok (.reserved11x (rec.extractLsb' 0 9)) := by
  have hne : ∀ op : BitVec 3, op.toNat < 6 → effectOp rec ≠ op := by
    rintro op hop rfl
    omega
  simp [decodeEffect, hne]

/-- Settles O4: a reserved op code misses every earlier branch of the decoder, and RESERVED_11X's arm refuses. -/
theorem reservedEffectOpCodesAreRefused : Obligations.ReservedEffectOpCodesAreRefused := by
  refine ⟨fun low => ?_, fun low s => rfl⟩
  rw [decodeEffect_of_op_ge (effectOp_reserved_ge low), BitVec.extractLsb'_append_eq_right]

/-! ### The operands and wires of a state code -/

/-- Settles O19: R80's table, row by row. -/
theorem thresholdOperand : Obligations.ThresholdOperand := fun _ =>
  ⟨rfl, rfl, rfl, rfl, rfl, rfl, rfl, rfl, rfl, rfl⟩

/-- Settles O37: the gate is bit 0 by definition, and the ten codes are looked up. -/
theorem gateByStateCode : Obligations.GateByStateCode :=
  ⟨fun _ => rfl, by decide, by decide⟩

/-! ### The button lines of a script -/

/-- A due line governs the button where no due line before it has a later t and every due line behind it has an
earlier one (30_encoding.md R84; log 8). -/
theorem lastDue_append_cons {n : Nat} {e : ButtonEvent} {before behind : List ButtonEvent} (he : e.at_ ≤ n)
    (hbefore : ∀ d ∈ before, d.at_ ≤ n → d.at_ ≤ e.at_) (hbehind : ∀ d ∈ behind, d.at_ ≤ n → d.at_ < e.at_) :
    lastDue n (before ++ e :: behind) = some e := by
  induction before with
  | nil =>
    cases hl : lastDue n behind with
    | none => simp [lastDue, hl, he]
    | some d =>
      obtain ⟨hd, hdn, -⟩ := lastDue_eq_some hl
      simp [lastDue, hl, he, hbehind d hd hdn]
  | cons c rest ih =>
    obtain ⟨hc, hrest⟩ := List.forall_mem_cons.1 hbefore
    have hnot : ¬(c.at_ ≤ n ∧ e.at_ < c.at_) := fun h => absurd (hc h.1) (not_le.2 h.2)
    simp [lastDue, ih hrest, hnot]

theorem nextButton_script {n : Nat} {t : State} {events : List ButtonEvent} (h : t.button = .script events) :
    nextButton n t = ((lastDue n events).elim t.btnN fun e => !e.pressed,
      .script (events.filter fun e => decide (n < e.at_))) := by
  simp [nextButton, h, dueEvents]

/-- Settles O59: the line that governs is `lastDue`'s, and the filter keeps the lines not yet due, all of them where
none is due. -/
theorem scriptLineActsInItsTickCycle : Obligations.ScriptLineActsInItsTickCycle := by
  refine ⟨fun s t e before behind hb he hbefore hbehind => ?_, fun s t events hb hlate => ?_⟩
  · have hgoverns := lastDue_append_cons he hbefore hbehind
    simp [nextButton_script hb, hgoverns, not_lt.2 he]
  · have hnone := lastDue_eq_none.2 hlate
    have hkeep := List.filter_eq_self.2 fun d hd => decide_eq_true (hlate d hd)
    simp [nextButton_script hb, hnone, hkeep]

end Sys2Proof.Proofs
end

section
/-! PROOF. The operations of the tick source that run alone (40_tick_source.md R101 to R108): TICK,
ACCUMULATE_AND_RESET, CLOSE_FRAME and RESET_ONLY, and CounterOverflow before every state rule (R103). -/

namespace Sys2Proof.Proofs

open Sys2Proof.Machine Sys2Proof.Safety Sys2Proof.Laws

/-! ### The first fault of a block, and `cnt'` past 0xFFFF -/

theorem raiseFault_of_nil {s : State} (f : Fault) (h : s.faults = []) : raiseFault f s = { s with faults := [f] } := by
  simp [raiseFault, h, recordFault_nil]

theorem exec_state_overflow {i : Instr} {s : State} (hi : i.format = .state) (h : 0xFFFF < countAfter s)
    (hf : s.faults = []) : exec i s = .next (stuckOn (.counterOverflow s.st) s) := by
  obtain ⟨rule, hrule⟩ := exec_state_eq hi s
  rw [hrule, blockCycle_overflow rule h]
  exact congrArg _ (raiseFault_of_nil _ hf)

/-- A part of a cycle that runs alone records CounterOverflow, whatever it does with `cnt'`. -/
theorem orRaise_withTick_overflow {s : State} (k : BitVec 17 → Except Fault State) (h : 0xFFFF < countAfter s)
    (hf : s.faults = []) :
    orRaise s (withTick s k) = .next { s with faults := [.counterOverflow s.st] } := by
  rw [withTick_of_lt k h, orRaise_error, raiseFault_of_nil _ hf]

/-- Settles O16: the tick's part of a cycle comes before the rule, in a STATE row and in a micro-operation. -/
theorem counterOverflowComesFirst : Obligations.CounterOverflowComesFirst := by
  intro s i h hf
  refine ⟨fun hi _ => exec_state_overflow hi h hf, fun hi => ?_⟩
  simp only [List.mem_cons, List.not_mem_nil, or_false] at hi
  rcases hi with rfl | rfl | rfl <;> exact orRaise_withTick_overflow _ h hf

/-! ### TICK -/

/-- With `tick` = 1 the count is one more exactly while `armed`. -/
theorem countAfter_tick (s : State) :
    countAfter { s with tick := true } = s.cnt.toNat + if s.armed then 1 else 0 := by
  simp [countAfter]

theorem exec_tick_of_le {s : State} (b : Bool) (h : countAfter { s with tick := true } ≤ 0xFFFF) :
    exec (.tick b) s = .next { s with cnt := BitVec.ofNat 16 (countAfter { s with tick := true }) } := by
  simp only [exec, execTick, withTick_of_le _ h, orRaise_ok, stayWith, setWidth_cntNext]

/-- Settles O21: R101's increment, R102's frozen count and R103's overflow. -/
theorem tickRule : Obligations.TickRule := by
  intro s b
  refine ⟨fun ha hc => ?_, fun ha => ?_, fun ha hc hf => ?_⟩
  · have hcount : countAfter { s with tick := true } = s.cnt.toNat + 1 := by rw [countAfter_tick]; simp [ha]
    rw [exec_tick_of_le b (by omega), hcount]
  · have hcount : countAfter { s with tick := true } = s.cnt.toNat := by rw [countAfter_tick]; simp [ha]
    have hlt := s.cnt.isLt
    rw [exec_tick_of_le b (by omega), hcount, BitVec.ofNat_toNat, BitVec.setWidth_eq]
  · have hcount : countAfter { s with tick := true } = s.cnt.toNat + 1 := by rw [countAfter_tick]; simp [ha]
    have hover : 0xFFFF < countAfter { s with tick := true } := by omega
    simp only [exec, execTick, withTick_of_lt _ hover, orRaise_error, raiseFault_of_nil _ hf]

/-! ### The micro-operations on `acc`, `cnt` and `budget` -/

/-- Settles O26: R104's sum, or AccOverflow. -/
theorem accumulateAndResetRule : Obligations.AccumulateAndResetRule := by
  intro s
  refine ⟨fun h => ?_, fun hc h hf => ?_⟩
  · have hle : s.acc.toNat + (cntNext s).toNat ≤ 0xFFFF := by rw [cntNext_toNat]; exact h
    simp only [exec, execAccumulateAndReset, withTick_of_le (s := s) _ (by omega), accumulate_of_le hle, orRaise_ok,
      cntNext_toNat]
  · have hlt : 0xFFFF < s.acc.toNat + (cntNext s).toNat := by rw [cntNext_toNat]; exact h
    simp only [exec, execAccumulateAndReset, withTick_of_le (s := s) _ hc, accumulate_of_lt hlt, orRaise_error,
      raiseFault_of_nil _ hf]

/-- Settles O27: R106's budget, or BudgetUnderflow. -/
theorem closeFrameRule : Obligations.CloseFrameRule := by
  intro s
  refine ⟨fun h => ?_, fun hc h hf => ?_⟩
  · have hle : s.acc.toNat + (cntNext s).toNat ≤ 4095 := by rw [cntNext_toNat]; exact h
    simp only [exec, execCloseFrame, withTick_of_le (s := s) _ (by omega), closeWith_of_le hle, orRaise_ok,
      cntNext_toNat]
  · have hlt : 4095 < s.acc.toNat + (cntNext s).toNat := by rw [cntNext_toNat]; exact h
    simp only [exec, execCloseFrame, withTick_of_le (s := s) _ hc, closeWith_of_lt hlt, orRaise_error,
      raiseFault_of_nil _ hf, cntNext_toNat]

/-- Settles O28: RESET_ONLY is the one write of `cnt` (R108). -/
theorem resetOnlyRule : Obligations.ResetOnlyRule := fun _ => rfl

end Sys2Proof.Proofs
end

section
/-! PROOF. The frames' lengths (40_tick_source.md R112, R113): the ticks of the bits sent, the closed form of a data
frame's total and the sums of the phase lengths. -/

namespace Sys2Proof.Proofs

open Sys2Proof.Machine Sys2Proof.Safety

/-! ### The ticks of the bits sent -/

theorem bitTicks_le (dc : BitVec 32) (n : Nat) : bitTicks dc n ≤ 86 * n := by
  induction n with
  | zero => simp [bitTicks]
  | succ n ih =>
    have hbit : bitLength (sentBit dc n) ≤ 86 := by cases sentBit dc n <;> decide
    rw [bitTicks]
    omega

/-- A zero bit is 43 ticks shorter than a one bit (30_encoding.md R82). -/
theorem bitTicks_add_zeros (dc : BitVec 32) (n : Nat) :
    bitTicks dc n + 43 * ((List.range n).filter fun k => !sentBit dc k).length = 86 * n := by
  induction n with
  | zero => simp [bitTicks]
  | succ n ih =>
    rw [bitTicks, List.range_succ, List.filter_append, List.length_append]
    cases hb : sentBit dc n <;> simp [hb, bitLength] <;> omega

/-- The bits are sent most significant first, each once (20_memory.md R52). -/
theorem zeroBits_eq_sent (dc : BitVec 32) :
    zeroBits dc = ((List.range 32).filter fun k => !sentBit dc k).length := by
  have hrev : List.range 32 = ((List.range 32).map fun k => 31 - k).reverse := by decide
  rw [zeroBits, hrev, List.filter_reverse, List.length_reverse, List.filter_map, List.length_map, ← hrev]
  rfl

theorem zeroBits_le (dc : BitVec 32) : zeroBits dc ≤ 32 :=
  (List.length_filter_le _ _).trans_eq List.length_range

/-- S of a data frame in closed form (40_tick_source.md R112). -/
theorem dataTotal_closed_form (dc : BitVec 32) : dataTotal dc + 43 * zeroBits dc = 3286 := by
  have hbits := bitTicks_add_zeros dc 32
  rw [← zeroBits_eq_sent] at hbits
  rw [dataTotal]
  omega

theorem dataTotal_bounds (dc : BitVec 32) : 1910 ≤ dataTotal dc ∧ dataTotal dc ≤ 3286 := by
  have hform := dataTotal_closed_form dc
  have hzeros := zeroBits_le dc
  omega

/-- The 32nd bit and the stop bit's mark complete the total. -/
theorem dataTotal_eq_last_bit (dc : BitVec 32) :
    dataTotal dc = 512 + bitTicks dc 31 + bitLength (sentBit dc 31) + 22 := by
  rw [dataTotal, bitTicks]
  omega

/-! ### The sums of the phase lengths -/

theorem phaseTicks_append (xs ys : List Phase) : phaseTicks (xs ++ ys) = phaseTicks xs + phaseTicks ys := by
  simp [phaseTicks]

theorem phaseTicks_bitPhases (b : Bool) : phaseTicks (bitPhases b) = bitLength b := by
  cases b <;> rfl

theorem phaseTicks_bits (dc : BitVec 32) (n : Nat) :
    phaseTicks ((List.range n).flatMap fun k => bitPhases (sentBit dc k)) = bitTicks dc n := by
  induction n with
  | zero => rfl
  | succ n ih =>
    rw [List.range_succ, List.flatMap_append, phaseTicks_append, ih, List.flatMap_singleton, phaseTicks_bitPhases,
      bitTicks]

theorem phaseTicks_dataFrame (dc : BitVec 32) : phaseTicks (dataFrame dc) = 4096 := by
  obtain ⟨-, hle⟩ := dataTotal_bounds dc
  have hstop : phaseTicks [(codeStopOn, 22), (codeStopOff, framePeriods - dataTotal dc + 1)]
      = 22 + (4095 - dataTotal dc + 1) := rfl
  have hleader : phaseTicks [(codeLdrOn, 341), (codeLdrOff, 171)] = 512 := rfl
  rw [dataFrame, phaseTicks_append, phaseTicks_append, phaseTicks_bits, hstop, hleader]
  rw [dataTotal] at hle ⊢
  omega

theorem phaseTicks_repeatFrame : phaseTicks repeatFrame = 4096 := rfl

end Sys2Proof.Proofs
end

section
/-! PROOF. The exits of the phases as equations (42_protocol_encoder.md R144 to R153): the state that each exit's cycle
leaves, where no fault is raised. -/

namespace Sys2Proof.Proofs

open Sys2Proof.Machine Sys2Proof.Safety Sys2Proof.Laws

/-! ### The states that exits lead to -/

/-- A space entered from a mark: ACCUMULATE-AND-RESET, gate off (R145, R147, R152). -/
def spaceEntry (code : BitVec 4) (s : State) : State :=
  { s with
    st := code, acc := BitVec.ofNat 16 (s.acc.toNat + countAfter s), cnt := 0#16
    duty := 0#8, tmrEn := s.armed, tmrClr := false, effects := [.pwmDuty 0#8] }

/-- The stop bit entered from a space: ACCUMULATE-AND-RESET, gate on (R148, R149, R153). -/
def stopOnEntry (s : State) : State :=
  { s with
    st := codeStopOn, acc := BitVec.ofNat 16 (s.acc.toNat + countAfter s), cnt := 0#16
    duty := 70#8, tmrEn := s.armed, tmrClr := false, effects := [.pwmDuty 70#8] }

/-- A data bit's mark entered from a space: ACCUMULATE-AND-RESET and ENTER-BIT (R143, R146, R148, R149). -/
def bitEntry (s : State) : State :=
  { s with
    st := codeBitOn, acc := BitVec.ofNat 16 (s.acc.toNat + countAfter s), cnt := 0#16
    curbit := s.dc.getLsbD s.cur.toInt.toNat, cur := s.cur - 1#6
    duty := 70#8, tmrEn := s.armed, tmrClr := false, effects := [.pwmDuty 70#8] }

/-- StopOff entered from the stop bit: CLOSE-FRAME, gate off (R150). -/
def stopOffEntry (s : State) : State :=
  { s with
    st := codeStopOff, budget := BitVec.ofNat 16 (4095 - (s.acc.toNat + countAfter s)), acc := 0#16, cnt := 0#16
    duty := 0#8, tmrEn := s.armed, tmrClr := false, effects := [.pwmDuty 0#8] }

/-- A repeat frame's start at StopOff's exit, the button pressed (R151). -/
def repeatEntry (s : State) : State :=
  { s with
    st := codeRptOn, cnt := 0#16, cur := 31#6
    duty := 70#8, tmrEn := s.armed, tmrClr := false, effects := [.btnRead true, .pwmDuty 70#8] }

/-- Idle at StopOff's exit, the button released: TERMINATE (R151, R156). -/
def idleEntry (s : State) : State :=
  { s with
    st := codeIdle, cnt := 0#16, acc := 0#16, cur := 31#6, armed := false
    duty := 0#8, tmrEn := false, tmrClr := false, effects := [.btnRead false, .tmrDisarm] }

/-- The leader's start at the Idle exit (R144). -/
def leaderEntry (s : State) : State :=
  { s with
    st := codeLdrOn, cnt := 0#16, acc := 0#16, cur := 31#6, armed := true
    duty := 70#8, tmrEn := true, tmrClr := true, tmrLeft := s.clkPerTick
    effects := [.btnRead true, .tmrReset, .tmrArm 210#8, .pwmDuty 70#8] }

/-! ### The outputs of an exit -/

theorem driveOutputs_space {t : State} {c : BitVec 4} (hst : t.st = c) (hg : gateOf c = false) :
    driveOutputs t = { t with duty := 0#8, tmrEn := t.armed } := by
  simp [driveOutputs, gate, dutyFor, dutyOff, hst, hg]

theorem driveOutputs_mark {t : State} {c : BitVec 4} (hst : t.st = c) (hg : gateOf c = true) :
    driveOutputs t = { t with duty := 70#8, tmrEn := t.armed } := by
  simp [driveOutputs, gate, dutyFor, dutyOn, hst, hg]

section
variable (c : BitVec 4) {code : BitVec 4} {onExit : BitVec 17 → State → Except Fault State} {s t : State}
  {th : BitVec 16}
  (ht : threshold code s.budget = some th) (h : th.toNat < countAfter s) (hc : countAfter s ≤ 0xFFFF)
  (hr : onExit (cntNext s) (beginCycle s) = .ok t) (hst : t.st = c)
include ht h hc hr hst

theorem phaseCycle_exit_space (hg : gateOf c = false) :
    phaseCycle code onExit s = .next { t with duty := 0#8, tmrEn := t.armed } := by
  rw [phaseCycle_exit ht h hc hr, driveOutputs_space hst hg]

theorem phaseCycle_exit_mark (hg : gateOf c = true) :
    phaseCycle code onExit s = .next { t with duty := 70#8, tmrEn := t.armed } := by
  rw [phaseCycle_exit ht h hc hr, driveOutputs_mark hst hg]

end

/-! ### The exit actions within a cycle -/

/-- The state inside a cycle once ACCUMULATE-AND-RESET has run. -/
def accumulated (s : State) : State :=
  { beginCycle s with acc := BitVec.ofNat 16 (s.acc.toNat + countAfter s), cnt := 0#16 }

section
variable {s : State} (ha : s.acc.toNat + countAfter s ≤ 0xFFFF)
include ha

theorem toSpace_in_cycle (next : State → BitVec 4) :
    toSpace next (cntNext s) (beginCycle s) = .ok (gateOff { accumulated s with st := next (accumulated s) }) := by
  rw [toSpace, accumulate_in_cycle ha]
  rfl

theorem toMark_in_cycle (next : BitVec 4) :
    toMark next (cntNext s) (beginCycle s) = .ok (gateOn { accumulated s with st := next }) := by
  rw [toMark, accumulate_in_cycle ha]
  rfl

theorem accumulate_bind_startBit_in_cycle (hcur : 0 ≤ s.cur.toInt) :
    (accumulate (cntNext s) (beginCycle s)).bind startBit = .ok (gateOn { accumulated s with
      curbit := s.dc.getLsbD s.cur.toInt.toNat, cur := s.cur - 1#6, st := codeBitOn }) := by
  rw [accumulate_in_cycle ha]
  exact startBit_of_nonneg (s := accumulated s) hcur

theorem afterBit_in_cycle_of_done (hcur : s.cur.toInt = -1) :
    afterBit (cntNext s) (beginCycle s) = .ok (gateOn { accumulated s with st := codeStopOn }) := by
  have hdone : (beginCycle s).cur = cursorDone := (cur_eq_cursorDone _).2 hcur
  rw [afterBit, if_pos hdone, toMark_in_cycle ha]

theorem afterBit_in_cycle_of_nonneg (hcur : 0 ≤ s.cur.toInt) :
    afterBit (cntNext s) (beginCycle s) = .ok (gateOn { accumulated s with
      curbit := s.dc.getLsbD s.cur.toInt.toNat, cur := s.cur - 1#6, st := codeBitOn }) := by
  have hne : ¬(beginCycle s).cur = cursorDone := fun h => by
    have hneg := (cur_eq_cursorDone _).1 h
    rw [beginCycle_cur] at hneg
    omega
  rw [afterBit, if_neg hne, accumulate_in_cycle ha]
  exact startBit_of_nonneg (s := accumulated s) hcur

/-! ### The exits -/

theorem exec_ldrOn_exit (h : 340 < countAfter s) : exec .ldrOn s = .next (spaceEntry codeLdrOff s) :=
  phaseCycle_exit_space codeLdrOff (threshold_ldrOn _) h (by omega) (toSpace_in_cycle ha _) rfl rfl

theorem exec_ldrOff_exit (h : 170 < countAfter s) (hcur : 0 ≤ s.cur.toInt) :
    exec .ldrOff s = .next (bitEntry s) :=
  phaseCycle_exit_mark codeBitOn (onExit := fun c t => (accumulate c t).bind startBit) (threshold_ldrOff _) h (by omega)
    (accumulate_bind_startBit_in_cycle ha hcur) rfl rfl

theorem exec_bitOn_exit (h : 21 < countAfter s) :
    exec .bitOn s = .next (spaceEntry (if s.curbit then codeBit1Off else codeBit0Off) s) :=
  phaseCycle_exit_space (if s.curbit then codeBit1Off else codeBit0Off) (threshold_bitOn _) h (by omega)
    (toSpace_in_cycle ha _) rfl (by cases s.curbit <;> rfl)

theorem exec_bit0Off_exit_stop (h : 20 < countAfter s) (hcur : s.cur.toInt = -1) :
    exec .bit0Off s = .next (stopOnEntry s) :=
  phaseCycle_exit_mark codeStopOn (threshold_bit0Off _) h (by omega) (afterBit_in_cycle_of_done ha hcur) rfl rfl

theorem exec_bit0Off_exit_bit (h : 20 < countAfter s) (hcur : 0 ≤ s.cur.toInt) :
    exec .bit0Off s = .next (bitEntry s) :=
  phaseCycle_exit_mark codeBitOn (threshold_bit0Off _) h (by omega) (afterBit_in_cycle_of_nonneg ha hcur) rfl rfl

theorem exec_bit1Off_exit_stop (h : 63 < countAfter s) (hcur : s.cur.toInt = -1) :
    exec .bit1Off s = .next (stopOnEntry s) :=
  phaseCycle_exit_mark codeStopOn (threshold_bit1Off _) h (by omega) (afterBit_in_cycle_of_done ha hcur) rfl rfl

theorem exec_bit1Off_exit_bit (h : 63 < countAfter s) (hcur : 0 ≤ s.cur.toInt) :
    exec .bit1Off s = .next (bitEntry s) :=
  phaseCycle_exit_mark codeBitOn (threshold_bit1Off _) h (by omega) (afterBit_in_cycle_of_nonneg ha hcur) rfl rfl

theorem exec_rptOn_exit (h : 340 < countAfter s) : exec .rptOn s = .next (spaceEntry codeRptOff s) :=
  phaseCycle_exit_space codeRptOff (threshold_rptOn _) h (by omega) (toSpace_in_cycle ha _) rfl rfl

theorem exec_rptOff_exit (h : 85 < countAfter s) : exec .rptOff s = .next (stopOnEntry s) :=
  phaseCycle_exit_mark codeStopOn (threshold_rptOff _) h (by omega) (toMark_in_cycle ha _) rfl rfl

end

/-- The exit actions of STOP_ON (R150). -/
def closeExit (c : BitVec 17) (s : State) : Except Fault State :=
  (closeWith c s).map fun u => gateOff { u with st := codeStopOff }

theorem exec_stopOn_exit {s : State} (h : 21 < countAfter s) (ha : s.acc.toNat + countAfter s ≤ 4095) :
    exec .stopOn s = .next (stopOffEntry s) := by
  have hclose : closeExit (cntNext s) (beginCycle s) =
      .ok (gateOff { beginCycle s with
        budget := BitVec.ofNat 16 (4095 - (s.acc.toNat + countAfter s)), acc := 0#16, cnt := 0#16
        st := codeStopOff }) := by
    rw [closeExit, closeWith_in_cycle ha]
    rfl
  exact phaseCycle_exit_space codeStopOff (onExit := closeExit) (threshold_stopOn _) h (by omega) hclose rfl rfl

theorem exec_stopOff_exit_pressed {s : State} (h : s.budget.toNat < countAfter s) (hc : countAfter s ≤ 0xFFFF)
    (hb : s.btnN = false) : exec .stopOff s = .next (repeatEntry s) := by
  have hleave : leaveStopOff (beginCycle s) =
      gateOn { readButton (clearCount (beginCycle s)) with cur := cursorStart, st := codeRptOn } := by
    simp [leaveStopOff, btn, hb]
  refine (phaseCycle_exit_mark codeRptOn (threshold_stopOff _) h hc (congrArg Except.ok hleave) rfl rfl).trans ?_
  simp [repeatEntry, gateOn, readButton, clearCount, emit, beginCycle, btn, hb, cursorStart, dutyOn]

theorem exec_stopOff_exit_released {s : State} (h : s.budget.toNat < countAfter s) (hc : countAfter s ≤ 0xFFFF)
    (hb : s.btnN = true) : exec .stopOff s = .next (idleEntry s) := by
  have hleave : leaveStopOff (beginCycle s) = endTransmission (readButton (clearCount (beginCycle s))) := by
    simp [leaveStopOff, btn, hb]
  refine (phaseCycle_exit_space codeIdle (threshold_stopOff _) h hc (congrArg Except.ok hleave) rfl rfl).trans ?_
  simp [idleEntry, endTransmission, disarmTimer, readButton, clearCount, emit, beginCycle, btn, hb, cursorStart]

/-! ### Idle -/

theorem exec_idle_press {s : State} (hc : countAfter s ≤ 0xFFFF) (hb : s.btnN = false) :
    exec .idle s = .next (leaderEntry s) := by
  simp only [exec, execIdle]
  rw [blockCycle_ok (t := startTransmission (readButton (beginCycle s))) hc (by simp [btn, hb]),
    driveOutputs_mark (c := codeLdrOn) rfl rfl]
  simp [leaderEntry, startTransmission, armTimer, gateOn, readButton, emit, beginCycle, btn, hb, cursorStart, dutyOn,
    Config.pwmPeriodTicks]

end Sys2Proof.Proofs
end

section
/-! PROOF. What the invariant says of each state of a transmission, by name, and the bounds that follow: `cnt'` and its
threshold (40_tick_source.md R111), `acc` (R112) and the ticks of a frame (R113). -/

namespace Sys2Proof.Proofs

open Sys2Proof.Machine Sys2Proof.Safety Sys2Proof.Laws

/-! ### The phases by name -/

/-- `phaseData`, one constructor per state of a transmission. -/
inductive PhaseView (s : State) : Prop
  | idle (hst : s.st = codeIdle) (hcnt : s.cnt = 0#16) (hacc : s.acc = 0#16) (hcur : s.cur = 31#6)
  | ldrOn (hst : s.st = codeLdrOn) (hcnt : s.cnt.toNat ≤ 340) (hacc : s.acc = 0#16) (hcur : s.cur = 31#6)
  | ldrOff (hst : s.st = codeLdrOff) (hcnt : s.cnt.toNat ≤ 170) (hacc : s.acc.toNat = 341) (hcur : s.cur = 31#6)
  | bitOn (hst : s.st = codeBitOn) (hcnt : s.cnt.toNat ≤ 21) (hcur : cursorInBits s)
      (hacc : s.acc.toNat = 512 + bitTicks s.dc (bitsSent s)) (hbit : s.curbit = sentBit s.dc (bitsSent s))
  | bit0Off (hst : s.st = codeBit0Off) (hcnt : s.cnt.toNat ≤ 20) (hcur : cursorInBits s)
      (hacc : s.acc.toNat = 512 + bitTicks s.dc (bitsSent s) + 22) (hbit : sentBit s.dc (bitsSent s) = false)
  | bit1Off (hst : s.st = codeBit1Off) (hcnt : s.cnt.toNat ≤ 63) (hcur : cursorInBits s)
      (hacc : s.acc.toNat = 512 + bitTicks s.dc (bitsSent s) + 22) (hbit : sentBit s.dc (bitsSent s) = true)
  | stopOn (hst : s.st = codeStopOn) (hcnt : s.cnt.toNat ≤ 21)
      (hframe : (s.cur.toInt = -1 ∧ s.acc.toNat + 22 = dataTotal s.dc) ∨
        (s.cur = 31#6 ∧ s.acc.toNat + 22 = repeatTotal))
  | stopOff (hst : s.st = codeStopOff) (hcnt : s.cnt.toNat ≤ s.budget.toNat) (hacc : s.acc = 0#16)
      (hframe : (s.cur.toInt = -1 ∧ dataTotal s.dc + s.budget.toNat = 4095) ∨
        (s.cur = 31#6 ∧ repeatTotal + s.budget.toNat = 4095))
  | rptOn (hst : s.st = codeRptOn) (hcnt : s.cnt.toNat ≤ 340) (hacc : s.acc = 0#16) (hcur : s.cur = 31#6)
  | rptOff (hst : s.st = codeRptOff) (hcnt : s.cnt.toNat ≤ 85) (hacc : s.acc.toNat = 341) (hcur : s.cur = 31#6)

theorem phaseView_of_phaseData {s : State} (h : phaseData s) : PhaseView s := by
  unfold phaseData at h
  split_ifs at h with h0 h1 h2 h3 h4 h5 h6 h7 h8 h9
  · obtain ⟨hcnt, hacc, hcur⟩ := h; exact .idle h0 hcnt hacc hcur
  · obtain ⟨hcnt, hacc, hcur⟩ := h; exact .ldrOn h1 hcnt hacc hcur
  · obtain ⟨hcnt, hacc, hcur⟩ := h; exact .ldrOff h2 hcnt hacc hcur
  · obtain ⟨hcnt, hcur, hacc, hbit⟩ := h; exact .bitOn h3 hcnt hcur hacc hbit
  · obtain ⟨hcnt, hcur, hacc, hbit⟩ := h; exact .bit0Off h4 hcnt hcur hacc hbit
  · obtain ⟨hcnt, hcur, hacc, hbit⟩ := h; exact .bit1Off h5 hcnt hcur hacc hbit
  · obtain ⟨hcnt, hframe⟩ := h; exact .stopOn h6 hcnt hframe
  · obtain ⟨hcnt, hacc, hframe⟩ := h; exact .stopOff h7 hcnt hacc hframe
  · obtain ⟨hcnt, hacc, hcur⟩ := h; exact .rptOn h8 hcnt hacc hcur
  · obtain ⟨hcnt, hacc, hcur⟩ := h; exact .rptOff h9 hcnt hacc hcur

theorem phaseData_of_phaseView {s : State} (h : PhaseView s) : phaseData s := by
  cases h with
  | idle hst hcnt hacc hcur => rw [phaseData, hst]; exact ⟨hcnt, hacc, hcur⟩
  | ldrOn hst hcnt hacc hcur => rw [phaseData, hst]; exact ⟨hcnt, hacc, hcur⟩
  | ldrOff hst hcnt hacc hcur => rw [phaseData, hst]; exact ⟨hcnt, hacc, hcur⟩
  | bitOn hst hcnt hcur hacc hbit => rw [phaseData, hst]; exact ⟨hcnt, hcur, hacc, hbit⟩
  | bit0Off hst hcnt hcur hacc hbit => rw [phaseData, hst]; exact ⟨hcnt, hcur, hacc, hbit⟩
  | bit1Off hst hcnt hcur hacc hbit => rw [phaseData, hst]; exact ⟨hcnt, hcur, hacc, hbit⟩
  | stopOn hst hcnt hframe => rw [phaseData, hst]; exact ⟨hcnt, hframe⟩
  | stopOff hst hcnt hacc hframe => rw [phaseData, hst]; exact ⟨hcnt, hacc, hframe⟩
  | rptOn hst hcnt hacc hcur => rw [phaseData, hst]; exact ⟨hcnt, hacc, hcur⟩
  | rptOff hst hcnt hacc hcur => rw [phaseData, hst]; exact ⟨hcnt, hacc, hcur⟩

/-! ### The frame's clock -/

theorem frameClock_stopOff {s : State} (h : s.st = codeStopOff) :
    frameClock s = 4095 - s.budget.toNat + s.cnt.toNat := if_pos h

theorem frameClock_of_ne_stopOff {s : State} (h : s.st ≠ codeStopOff) :
    frameClock s = s.acc.toNat + s.cnt.toNat := if_neg h

/-! ### Bounds -/

theorem bitsSent_le {s : State} (h : cursorInBits s) : bitsSent s ≤ 31 := by
  obtain ⟨hlo, -⟩ := h
  unfold bitsSent
  omega

/-- The bits wholly sent before the one on the air. -/
theorem bitTicks_bitsSent_le {s : State} (h : cursorInBits s) : bitTicks s.dc (bitsSent s) ≤ 2666 := by
  have hticks := bitTicks_le s.dc (bitsSent s)
  have hsent := bitsSent_le h
  omega

theorem acc_le_of_phaseData {s : State} (h : phaseData s) : s.acc.toNat ≤ 3264 := by
  obtain ⟨-, hdata⟩ := dataTotal_bounds s.dc
  have hrepeat : repeatTotal = 449 := rfl
  cases phaseView_of_phaseData h with
  | idle _ _ hacc _ | ldrOn _ _ hacc _ | stopOff _ _ hacc _ | rptOn _ _ hacc _ => simp [hacc]
  | ldrOff _ _ hacc _ | rptOff _ _ hacc _ => omega
  | bitOn _ _ hcur hacc _ | bit0Off _ _ hcur hacc _ | bit1Off _ _ hcur hacc _ =>
    have hticks := bitTicks_bitsSent_le hcur
    omega
  | stopOn _ _ hframe => omega

/-- `budget` in StopOff is 809 to 2185 in a data frame and 3646 in a repeat frame. -/
theorem budget_le_of_phaseData {s : State} (h : phaseData s) (hst : s.st = codeStopOff) : s.budget.toNat ≤ 3646 := by
  obtain ⟨hdata, -⟩ := dataTotal_bounds s.dc
  have hrepeat : repeatTotal = 449 := rfl
  cases phaseView_of_phaseData h with
  | stopOff _ _ _ hframe => omega
  | _ hst' => exact absurd (hst'.symm.trans hst) (by decide)

/-- A state has a threshold exactly outside Idle. -/
theorem exists_threshold {s : State} (h : phaseData s) (hst : s.st ≠ codeIdle) :
    ∃ th, threshold s.st s.budget = some th := by
  cases phaseView_of_phaseData h with
  | idle hst' => exact absurd hst' hst
  | _ hst' => rw [hst']; exact ⟨_, rfl⟩

theorem cnt_le_threshold {s : State} {th : BitVec 16} (h : phaseData s) (ht : threshold s.st s.budget = some th) :
    s.cnt.toNat ≤ th.toNat := by
  cases phaseView_of_phaseData h with
  | idle hst => rw [hst] at ht; cases ht
  | ldrOn hst hcnt | ldrOff hst hcnt | bitOn hst hcnt | bit0Off hst hcnt | bit1Off hst hcnt | stopOn hst hcnt
  | stopOff hst hcnt | rptOn hst hcnt | rptOff hst hcnt => rw [hst] at ht; cases ht; exact hcnt

/-- Outside StopOff the longest phases are LeaderOn and RepeatOn. -/
theorem threshold_le {s : State} {th : BitVec 16} (h : phaseData s) (ht : threshold s.st s.budget = some th)
    (hst : s.st ≠ codeStopOff) : th.toNat ≤ 340 := by
  cases phaseView_of_phaseData h with
  | stopOff hst' => exact absurd hst' hst
  | idle hst' => rw [hst'] at ht; cases ht
  | _ hst' => rw [hst'] at ht; cases ht; decide

end Sys2Proof.Proofs
end

section
/-! PROOF. A cycle under the invariant (40_tick_source.md R109, R111, R112): within its threshold a phase stays, past it
the cycle is an armed tick cycle whose exit raises no fault, leaves `cnt` = 0 and keeps the invariant. -/

namespace Sys2Proof.Proofs

open Sys2Proof.Machine Sys2Proof.Safety Sys2Proof.Laws

/-! ### The count of a cycle -/

/-- Past the threshold the count is one more than it, and the cycle is a tick cycle. -/
theorem count_of_exceeds {s : State} {th : BitVec 16} (h : phaseData s) (ht : threshold s.st s.budget = some th)
    (hlt : th.toNat < countAfter s) : s.cnt.toNat = th.toNat ∧ countAfter s = th.toNat + 1 ∧ s.tick = true := by
  have hcnt := cnt_le_threshold h ht
  have hle := countAfter_le s
  refine ⟨by omega, by omega, ?_⟩
  by_contra htick
  have heq : countAfter s = s.cnt.toNat := by simp [countAfter, htick]
  omega

/-- Settles O41: `cnt` is at most the phase's threshold, and a cycle adds at most one. -/
theorem countNeverExceedsThreeThousandSixHundredFortySeven :
    Obligations.CountNeverExceedsThreeThousandSixHundredFortySeven := by
  rintro s ⟨-, -, -, harmed, hdata, -⟩
  have hle := countAfter_le s
  have hphase : ∀ th, threshold s.st s.budget = some th → countAfter s ≤ th.toNat + 1 := fun th ht => by
    have hcnt := cnt_le_threshold hdata ht
    omega
  have hidle : s.st = codeIdle → s.cnt = 0#16 ∧ countAfter s = 0 := fun hst => by
    cases phaseView_of_phaseData hdata with
    | idle _ hcnt => exact ⟨hcnt, by rw [countAfter_of_not_armed (by simp [harmed, hst]), hcnt]; rfl⟩
    | _ hst' => exact absurd (hst'.symm.trans hst) (by decide)
  have hshort : s.st ≠ codeStopOff → countAfter s ≤ 341 := fun hst => by
    by_cases hi : s.st = codeIdle
    · have hzero := (hidle hi).2
      omega
    · obtain ⟨th, ht⟩ := exists_threshold hdata hi
      have hcount := hphase th ht
      have hth := threshold_le hdata ht hst
      omega
  refine ⟨?_, hshort, hphase, hidle⟩
  by_cases hst : s.st = codeStopOff
  · have hcount := hphase s.budget (by rw [hst]; rfl)
    have hbudget := budget_le_of_phaseData hdata hst
    omega
  · have hcount := hshort hst
    omega

/-! ### STAY -/

/-- A phase's cycle is the exit template on its own code (42_protocol_encoder.md R141). -/
theorem exec_phase_eq {s : State} {th : BitVec 16} (h : phaseData s) (ht : threshold s.st s.budget = some th) :
    ∃ onExit, exec (decodeState s.st) s = phaseCycle s.st onExit s := by
  cases phaseView_of_phaseData h with
  | idle hst => rw [hst] at ht; cases ht
  | _ hst => rw [hst]; exact ⟨_, rfl⟩

theorem exec_phase_stay {s : State} {th : BitVec 16} (h : FrameInv s) (ht : threshold s.st s.budget = some th)
    (hle : countAfter s ≤ th.toNat) : exec (decodeState s.st) s = .next (stayed s) := by
  obtain ⟨-, -, hports, -, hdata, -⟩ := h
  obtain ⟨onExit, hcycle⟩ := exec_phase_eq hdata ht
  rw [hcycle, phaseCycle_stay ht hle hports]

/-! ### The invariant without the model's tick count -/

/-- `FrameInv` but for its clause on `tickNo`, which the environment moves. -/
abbrev BlockInv (s : State) : Prop :=
  s.faults = [] ∧ s.replay = [] ∧ portsAgree s ∧ s.armed = decide (s.st ≠ codeIdle) ∧ phaseData s

/-- A cycle of a state rule that raised no fault leaves the ports in agreement. -/
theorem portsAgree_of_exec_state {i : Instr} {s t : State} (hi : i.format = .state) (h : exec i s = .next t)
    (hf : t.faults = []) : portsAgree t := by
  obtain ⟨rule, hrule⟩ := exec_state_eq hi s
  rw [hrule] at h
  rcases blockCycle_cases h with ⟨u, -, -, rfl⟩ | ⟨f, rfl⟩
  · exact ⟨rfl, rfl⟩
  · exact absurd hf (recordFault_ne_nil _ f)

/-- What an exit of a phase leaves. -/
structure PhaseExit (s t : State) : Prop where
  leaves : t.st ≠ s.st
  count : t.cnt = 0#16
  inv : BlockInv t
  strobe : t.tmrClr = false
  clock : frameClock t % 4096 = (frameClock s + 1) % 4096
  idle_only : t.st = codeIdle → s.st = codeStopOff

/-! ### The exits that accumulate -/

/-- A 16-bit register holds a sum that does not overflow it. -/
theorem toNat_ofNat_of_le {n : Nat} (h : n ≤ 0xFFFF) : (BitVec.ofNat 16 n).toNat = n := by
  rw [BitVec.toNat_ofNat, Nat.mod_eq_of_lt (by omega)]

/-- An exit by ACCUMULATE-AND-RESET from the code d to the code c: what is left to show is the new phase's data. -/
theorem phaseExit_of_accumulate {s t : State} (c d : BitVec 4) (h : FrameInv s) (hs : s.st = d)
    (hexec : exec (decodeState d) s = .next t) (hst : t.st = c)
    (hcodes : c ∉ [codeIdle, codeStopOff, d] ∧ d ∉ [codeIdle, codeStopOff])
    (hkeeps : t.faults = s.faults ∧ t.replay = s.replay ∧ t.armed = s.armed ∧ t.tmrClr = false)
    (hcnt : t.cnt = 0#16) (hacc : t.acc.toNat = s.acc.toNat + s.cnt.toNat + 1) (hview : PhaseView t) :
    PhaseExit s t := by
  obtain ⟨hf, hr, -, harmed, -, -⟩ := h
  obtain ⟨hfaults, hreplay, hsame, hstrobe⟩ := hkeeps
  simp only [List.mem_cons, List.not_mem_nil, or_false, not_or] at hcodes
  obtain ⟨⟨hcIdle, hcStop, hcd⟩, hdIdle, hdStop⟩ := hcodes
  have hclock : frameClock t = frameClock s + 1 := by
    rw [frameClock_of_ne_stopOff (by rwa [hst]), frameClock_of_ne_stopOff (by rwa [hs]), hcnt, hacc]
    rfl
  have hports := portsAgree_of_exec_state (decodeState_format d) hexec (hfaults.trans hf)
  have harmed' : t.armed = decide (t.st ≠ codeIdle) := by simp [hsame, harmed, hs, hst, hcIdle, hdIdle]
  exact {
    leaves := by rwa [hst, hs]
    count := hcnt
    inv := ⟨hfaults.trans hf, hreplay.trans hr, hports, harmed', phaseData_of_phaseView hview⟩
    strobe := hstrobe
    clock := by rw [hclock]
    idle_only := fun hidle => absurd (hst.symm.trans hidle) hcIdle }

/-! ### The data of a bit -/

/-- `cur` moves on by one without wrapping (42_protocol_encoder.md R143). -/
theorem toInt_cur_sub_one {cur : BitVec 6} (h : 0 ≤ cur.toInt) : (cur - 1#6).toInt = cur.toInt - 1 := by
  have hlt : cur.toInt < 32 := BitVec.toInt_lt
  have hone : (1#6).toInt = 1 := rfl
  rw [BitVec.toInt_sub, hone]
  exact Int.bmod_eq_of_le (by omega) (by omega)

/-- ENTER-BIT's latch is the next bit to be sent (42_protocol_encoder.md R143, R160). -/
theorem phaseView_bitEntry {s : State} (hcur : 0 ≤ s.cur.toInt)
    (hsum : s.acc.toNat + countAfter s = 512 + bitTicks s.dc (31 - s.cur.toInt).toNat) : PhaseView (bitEntry s) := by
  have hlt : s.cur.toInt < 32 := BitVec.toInt_lt
  have hnext : (bitEntry s).cur.toInt = s.cur.toInt - 1 := toInt_cur_sub_one hcur
  have hsent : bitsSent (bitEntry s) = (31 - s.cur.toInt).toNat := by
    rw [bitsSent, hnext]
    omega
  have hticks := bitTicks_le s.dc (31 - s.cur.toInt).toNat
  have hacc : (bitEntry s).acc.toNat = s.acc.toNat + countAfter s := toNat_ofNat_of_le (by omega)
  refine .bitOn rfl (Nat.zero_le _) ⟨by omega, by omega⟩ (by rw [hacc, hsent, hsum]; rfl) ?_
  have hindex : 31 - (31 - s.cur.toInt).toNat = s.cur.toInt.toNat := by omega
  rw [hsent, sentBit, hindex]
  rfl

theorem phaseView_stopOnEntry {s : State}
    (hframe : (s.cur.toInt = -1 ∧ s.acc.toNat + countAfter s + 22 = dataTotal s.dc) ∨
      (s.cur = 31#6 ∧ s.acc.toNat + countAfter s + 22 = repeatTotal)) : PhaseView (stopOnEntry s) := by
  obtain ⟨-, hdata⟩ := dataTotal_bounds s.dc
  have hrepeat : repeatTotal = 449 := rfl
  have hacc : (stopOnEntry s).acc.toNat = s.acc.toNat + countAfter s := toNat_ofNat_of_le (by omega)
  exact .stopOn rfl (Nat.zero_le _) (by rw [hacc]; exact hframe)

/-- The space of a bit, once over, completes the bit's ticks; the next bit follows, or after the last the stop bit. -/
theorem bitTicks_next {s : State} {n : Nat} (hcur : cursorInBits s) (h0 : 0 ≤ s.cur.toInt)
    (hn : n = 512 + bitTicks s.dc (bitsSent s) + bitLength (sentBit s.dc (bitsSent s))) :
    n = 512 + bitTicks s.dc (31 - s.cur.toInt).toNat := by
  obtain ⟨-, hhi⟩ := hcur
  have hsucc : (31 - s.cur.toInt).toNat = bitsSent s + 1 := by
    rw [bitsSent]
    omega
  rw [hsucc, bitTicks, hn, Nat.add_assoc]

theorem bitTicks_last {s : State} {n : Nat} (hdone : s.cur.toInt = -1)
    (hn : n = 512 + bitTicks s.dc (bitsSent s) + bitLength (sentBit s.dc (bitsSent s))) :
    n + 22 = dataTotal s.dc := by
  have hsent : bitsSent s = 31 := by
    rw [bitsSent, hdone]
    rfl
  rw [dataTotal_eq_last_bit, hn, hsent]

end Sys2Proof.Proofs
end

section
/-! PROOF. The exit of each phase under the invariant (42_protocol_encoder.md R145 to R153), and with it the obligations
about one cycle: the exit condition (40_tick_source.md R109) and a frame's total (R112). -/

namespace Sys2Proof.Proofs

open Sys2Proof.Machine Sys2Proof.Safety Sys2Proof.Laws

/-! ### The exit of each phase -/

section
variable {s : State} (h : FrameInv s)
include h

theorem exit_ldrOn (hst : s.st = codeLdrOn) (hcnt : s.cnt.toNat = 340) (hcount : countAfter s = 341)
    (hacc : s.acc = 0#16) (hcur : s.cur = 31#6) : ∃ t, exec .ldrOn s = .next t ∧ PhaseExit s t := by
  have hzero : s.acc.toNat = 0 := by rw [hacc]; rfl
  have hexec := exec_ldrOn_exit (s := s) (by omega) (by omega)
  have hsum : (spaceEntry codeLdrOff s).acc.toNat = s.acc.toNat + countAfter s := toNat_ofNat_of_le (by omega)
  exact ⟨_, hexec, phaseExit_of_accumulate codeLdrOff codeLdrOn h hst hexec rfl (by decide) ⟨rfl, rfl, rfl, rfl⟩ rfl
    (by omega) (.ldrOff rfl (Nat.zero_le _) (by omega) hcur)⟩

theorem exit_ldrOff (hst : s.st = codeLdrOff) (hcnt : s.cnt.toNat = 170) (hcount : countAfter s = 171)
    (hacc : s.acc.toNat = 341) (hcur : s.cur = 31#6) : ∃ t, exec .ldrOff s = .next t ∧ PhaseExit s t := by
  have hfirst : s.cur.toInt = 31 := by rw [hcur]; rfl
  have hexec := exec_ldrOff_exit (s := s) (by omega) (by omega) (by omega)
  have hsum : (bitEntry s).acc.toNat = s.acc.toNat + countAfter s := toNat_ofNat_of_le (by omega)
  have hview : PhaseView (bitEntry s) := phaseView_bitEntry (by omega) (by rw [hfirst, hacc, hcount]; rfl)
  exact ⟨_, hexec, phaseExit_of_accumulate codeBitOn codeLdrOff h hst hexec rfl (by decide) ⟨rfl, rfl, rfl, rfl⟩ rfl
    (by omega) hview⟩

theorem exit_bitOn (hst : s.st = codeBitOn) (hcnt : s.cnt.toNat = 21) (hcount : countAfter s = 22)
    (hcur : cursorInBits s) (hacc : s.acc.toNat = 512 + bitTicks s.dc (bitsSent s))
    (hbit : s.curbit = sentBit s.dc (bitsSent s)) : ∃ t, exec .bitOn s = .next t ∧ PhaseExit s t := by
  have hticks := bitTicks_bitsSent_le hcur
  have hexec := exec_bitOn_exit (s := s) (by omega) (by omega)
  have hsum (c : BitVec 4) : (spaceEntry c s).acc.toNat = s.acc.toNat + countAfter s := toNat_ofNat_of_le (by omega)
  have hspace (c : BitVec 4) : (spaceEntry c s).acc.toNat = 512 + bitTicks s.dc (bitsSent s) + 22 := by
    rw [hsum, hacc, hcount]
  cases hb : s.curbit with
  | false =>
    rw [hb] at hexec hbit
    exact ⟨_, hexec, phaseExit_of_accumulate codeBit0Off codeBitOn h hst hexec rfl (by decide) ⟨rfl, rfl, rfl, rfl⟩ rfl
      (by rw [hsum]; omega) (.bit0Off rfl (Nat.zero_le _) hcur (hspace _) hbit.symm)⟩
  | true =>
    rw [hb] at hexec hbit
    exact ⟨_, hexec, phaseExit_of_accumulate codeBit1Off codeBitOn h hst hexec rfl (by decide) ⟨rfl, rfl, rfl, rfl⟩ rfl
      (by rw [hsum]; omega) (.bit1Off rfl (Nat.zero_le _) hcur (hspace _) hbit.symm)⟩

/-- The exit of a data bit's space d, from the two exits of its rule (R148, R149). -/
theorem exit_bitSpace (d : BitVec 4) (hst : s.st = d) (hd : d = codeBit0Off ∨ d = codeBit1Off)
    (hcount : countAfter s = s.cnt.toNat + 1) (hcur : cursorInBits s)
    (hsum : s.acc.toNat + countAfter s = 512 + bitTicks s.dc (bitsSent s) + bitLength (sentBit s.dc (bitsSent s)))
    (hstop : s.cur.toInt = -1 → exec (decodeState d) s = .next (stopOnEntry s))
    (hnext : 0 ≤ s.cur.toInt → exec (decodeState d) s = .next (bitEntry s)) :
    ∃ t, exec (decodeState d) s = .next t ∧ PhaseExit s t := by
  obtain ⟨-, hmax⟩ := dataTotal_bounds s.dc
  obtain ⟨hlo, hhi⟩ := id hcur
  by_cases hdone : s.cur.toInt = -1
  · have hlast := bitTicks_last hdone hsum
    have hacc : (stopOnEntry s).acc.toNat = s.acc.toNat + countAfter s := toNat_ofNat_of_le (by omega)
    exact ⟨_, hstop hdone, phaseExit_of_accumulate codeStopOn d h hst (hstop hdone) rfl
      (by rcases hd with rfl | rfl <;> decide) ⟨rfl, rfl, rfl, rfl⟩ rfl (by omega)
      (phaseView_stopOnEntry (.inl ⟨hdone, hlast⟩))⟩
  · have h0 : 0 ≤ s.cur.toInt := by omega
    have hsent := bitTicks_next hcur h0 hsum
    have hticks := bitTicks_le s.dc (31 - s.cur.toInt).toNat
    have hacc : (bitEntry s).acc.toNat = s.acc.toNat + countAfter s := toNat_ofNat_of_le (by omega)
    exact ⟨_, hnext h0, phaseExit_of_accumulate codeBitOn d h hst (hnext h0) rfl
      (by rcases hd with rfl | rfl <;> decide) ⟨rfl, rfl, rfl, rfl⟩ rfl (by omega) (phaseView_bitEntry h0 hsent)⟩

theorem exit_bit0Off (hst : s.st = codeBit0Off) (hcnt : s.cnt.toNat = 20) (hcount : countAfter s = 21)
    (hcur : cursorInBits s) (hacc : s.acc.toNat = 512 + bitTicks s.dc (bitsSent s) + 22)
    (hbit : sentBit s.dc (bitsSent s) = false) : ∃ t, exec .bit0Off s = .next t ∧ PhaseExit s t := by
  have hticks := bitTicks_bitsSent_le hcur
  have hlen : bitLength (sentBit s.dc (bitsSent s)) = 43 := by rw [hbit]; rfl
  exact exit_bitSpace h codeBit0Off hst (.inl rfl) (by omega) hcur (by omega)
    (exec_bit0Off_exit_stop (by omega) (by omega)) (exec_bit0Off_exit_bit (by omega) (by omega))

theorem exit_bit1Off (hst : s.st = codeBit1Off) (hcnt : s.cnt.toNat = 63) (hcount : countAfter s = 64)
    (hcur : cursorInBits s) (hacc : s.acc.toNat = 512 + bitTicks s.dc (bitsSent s) + 22)
    (hbit : sentBit s.dc (bitsSent s) = true) : ∃ t, exec .bit1Off s = .next t ∧ PhaseExit s t := by
  have hticks := bitTicks_bitsSent_le hcur
  have hlen : bitLength (sentBit s.dc (bitsSent s)) = 86 := by rw [hbit]; rfl
  exact exit_bitSpace h codeBit1Off hst (.inr rfl) (by omega) hcur (by omega)
    (exec_bit1Off_exit_stop (by omega) (by omega)) (exec_bit1Off_exit_bit (by omega) (by omega))

theorem exit_rptOn (hst : s.st = codeRptOn) (hcnt : s.cnt.toNat = 340) (hcount : countAfter s = 341)
    (hacc : s.acc = 0#16) (hcur : s.cur = 31#6) : ∃ t, exec .rptOn s = .next t ∧ PhaseExit s t := by
  have hzero : s.acc.toNat = 0 := by rw [hacc]; rfl
  have hexec := exec_rptOn_exit (s := s) (by omega) (by omega)
  have hsum : (spaceEntry codeRptOff s).acc.toNat = s.acc.toNat + countAfter s := toNat_ofNat_of_le (by omega)
  exact ⟨_, hexec, phaseExit_of_accumulate codeRptOff codeRptOn h hst hexec rfl (by decide) ⟨rfl, rfl, rfl, rfl⟩ rfl
    (by omega) (.rptOff rfl (Nat.zero_le _) (by omega) hcur)⟩

theorem exit_rptOff (hst : s.st = codeRptOff) (hcnt : s.cnt.toNat = 85) (hcount : countAfter s = 86)
    (hacc : s.acc.toNat = 341) (hcur : s.cur = 31#6) : ∃ t, exec .rptOff s = .next t ∧ PhaseExit s t := by
  have hexec := exec_rptOff_exit (s := s) (by omega) (by omega)
  have hsum : (stopOnEntry s).acc.toNat = s.acc.toNat + countAfter s := toNat_ofNat_of_le (by omega)
  have hview : PhaseView (stopOnEntry s) := phaseView_stopOnEntry (.inr ⟨hcur, by rw [hacc, hcount]; rfl⟩)
  exact ⟨_, hexec, phaseExit_of_accumulate codeStopOn codeRptOff h hst hexec rfl (by decide) ⟨rfl, rfl, rfl, rfl⟩ rfl
    (by omega) hview⟩

/-- Every phase but Idle runs armed (10_state.md R28). -/
theorem armed_of_ne_idle (hst : s.st ≠ codeIdle) : s.armed = true := by
  obtain ⟨-, -, -, harmed, -, -⟩ := h
  rw [harmed]
  exact decide_eq_true hst

theorem exit_stopOn (hst : s.st = codeStopOn) (hcnt : s.cnt.toNat = 21) (hcount : countAfter s = 22)
    (hframe : (s.cur.toInt = -1 ∧ s.acc.toNat + 22 = dataTotal s.dc) ∨
      (s.cur = 31#6 ∧ s.acc.toNat + 22 = repeatTotal)) : ∃ t, exec .stopOn s = .next t ∧ PhaseExit s t := by
  obtain ⟨-, hmax⟩ := dataTotal_bounds s.dc
  have hrepeat : repeatTotal = 449 := rfl
  have harmed := armed_of_ne_idle h (by rw [hst]; decide)
  have hexec := exec_stopOn_exit (s := s) (by omega) (by omega)
  have hbudget : (stopOffEntry s).budget.toNat = 4095 - (s.acc.toNat + countAfter s) := toNat_ofNat_of_le (by omega)
  have hview : PhaseView (stopOffEntry s) := by
    refine .stopOff rfl (Nat.zero_le _) rfl ?_
    rw [hbudget]
    exact hframe.imp (fun ⟨hcur, _⟩ => ⟨hcur, show dataTotal s.dc + _ = _ by omega⟩) fun ⟨hcur, _⟩ => ⟨hcur, by omega⟩
  have hclock : frameClock (stopOffEntry s) = frameClock s + 1 := by
    rw [frameClock_stopOff rfl, frameClock_of_ne_stopOff (by rw [hst]; decide), hbudget]
    show _ + 0 = _
    omega
  obtain ⟨hf, hr, -, -, -, -⟩ := h
  have hports := portsAgree_of_exec_state (i := .stopOn) rfl hexec hf
  exact ⟨_, hexec, {
    leaves := by rw [hst]; exact (by decide : codeStopOff ≠ codeStopOn)
    count := rfl
    inv := ⟨hf, hr, hports, harmed, phaseData_of_phaseView hview⟩
    strobe := rfl
    clock := by rw [hclock]
    idle_only := fun hidle => absurd hidle (by decide : codeStopOff ≠ codeIdle) }⟩

/-- StopOff's last tick is the frame's 4096th (40_tick_source.md R113). -/
theorem frameClock_at_end (hst : s.st = codeStopOff) (hcnt : s.cnt.toNat = s.budget.toNat) : frameClock s = 4095 := by
  obtain ⟨-, -, -, -, hdata, -⟩ := h
  have hbudget := budget_le_of_phaseData hdata hst
  rw [frameClock_stopOff hst]
  omega

theorem exit_stopOff (hst : s.st = codeStopOff) (hcnt : s.cnt.toNat = s.budget.toNat)
    (hcount : countAfter s = s.budget.toNat + 1) (hacc : s.acc = 0#16) :
    ∃ t, exec .stopOff s = .next t ∧ PhaseExit s t ∧ t.st = (if s.btnN then codeIdle else codeRptOn) := by
  have hend := frameClock_at_end h hst hcnt
  have harmed := armed_of_ne_idle h (by rw [hst]; decide)
  obtain ⟨hf, hr, -, -, hdata, -⟩ := h
  have hbudget := budget_le_of_phaseData hdata hst
  have hlt : s.budget.toNat < countAfter s := by omega
  cases hb : s.btnN with
  | false =>
    have hexec := exec_stopOff_exit_pressed hlt (by omega) hb
    have hports := portsAgree_of_exec_state (i := .stopOff) rfl hexec hf
    have hclock : frameClock (repeatEntry s) = 0 := by
      rw [frameClock_of_ne_stopOff (by exact (by decide : codeRptOn ≠ codeStopOff))]
      show s.acc.toNat + 0 = 0
      rw [hacc]
      rfl
    exact ⟨_, hexec, {
      leaves := by rw [hst]; exact (by decide : codeRptOn ≠ codeStopOff)
      count := rfl
      inv := ⟨hf, hr, hports, harmed, phaseData_of_phaseView (.rptOn rfl (Nat.zero_le _) hacc rfl)⟩
      strobe := rfl
      clock := by rw [hclock, hend]
      idle_only := fun _ => hst }, rfl⟩
  | true =>
    have hexec := exec_stopOff_exit_released hlt (by omega) hb
    have hports := portsAgree_of_exec_state (i := .stopOff) rfl hexec hf
    have hclock : frameClock (idleEntry s) = 0 := rfl
    exact ⟨_, hexec, {
      leaves := by rw [hst]; exact (by decide : codeIdle ≠ codeStopOff)
      count := rfl
      inv := ⟨hf, hr, hports, rfl, phaseData_of_phaseView (.idle rfl rfl rfl rfl)⟩
      strobe := rfl
      clock := by rw [hclock, hend]
      idle_only := fun _ => hst }, rfl⟩

/-- Past its threshold a phase is left, whichever it is, without a fault. -/
theorem exec_phase_exit {th : BitVec 16} (ht : threshold s.st s.budget = some th) (hlt : th.toNat < countAfter s) :
    ∃ t, exec (decodeState s.st) s = .next t ∧ PhaseExit s t := by
  obtain ⟨-, -, -, -, hdata, -⟩ := id h
  obtain ⟨hcnt, hcount, -⟩ := count_of_exceeds hdata ht hlt
  cases phaseView_of_phaseData hdata with
  | idle hst => rw [hst] at ht; cases ht
  | ldrOn hst _ hacc hcur => rw [hst] at ht ⊢; cases ht; exact exit_ldrOn h hst hcnt hcount hacc hcur
  | ldrOff hst _ hacc hcur => rw [hst] at ht ⊢; cases ht; exact exit_ldrOff h hst hcnt hcount hacc hcur
  | bitOn hst _ hcur hacc hbit => rw [hst] at ht ⊢; cases ht; exact exit_bitOn h hst hcnt hcount hcur hacc hbit
  | bit0Off hst _ hcur hacc hbit => rw [hst] at ht ⊢; cases ht; exact exit_bit0Off h hst hcnt hcount hcur hacc hbit
  | bit1Off hst _ hcur hacc hbit => rw [hst] at ht ⊢; cases ht; exact exit_bit1Off h hst hcnt hcount hcur hacc hbit
  | stopOn hst _ hframe => rw [hst] at ht ⊢; cases ht; exact exit_stopOn h hst hcnt hcount hframe
  | stopOff hst _ hacc _ =>
    rw [hst] at ht ⊢
    cases ht
    obtain ⟨t, hexec, hexit, -⟩ := exit_stopOff h hst hcnt hcount hacc
    exact ⟨t, hexec, hexit⟩
  | rptOn hst _ hacc hcur => rw [hst] at ht ⊢; cases ht; exact exit_rptOn h hst hcnt hcount hacc hcur
  | rptOff hst _ hacc hcur => rw [hst] at ht ⊢; cases ht; exact exit_rptOff h hst hcnt hcount hacc hcur

end

/-! ### The obligations about one cycle -/

/-- Settles O20: within the threshold the cycle is STAY, past it the phase is left, by a tick. -/
theorem phaseExitsWhenTheCountPassesTheThreshold : Obligations.PhaseExitsWhenTheCountPassesTheThreshold := by
  intro s t th h ht hexec
  obtain ⟨-, -, -, -, hdata, -⟩ := id h
  by_cases hlt : th.toNat < countAfter s
  · obtain ⟨u, hexec', hexit⟩ := exec_phase_exit h ht hlt
    rw [hexec'] at hexec
    cases hexec
    obtain ⟨-, -, htick⟩ := count_of_exceeds hdata ht hlt
    exact ⟨iff_of_true hexit.leaves hlt, fun _ => htick⟩
  · rw [exec_phase_stay h ht (by omega)] at hexec
    cases hexec
    exact ⟨iff_of_false (fun hne => hne rfl) hlt, fun hne => absurd rfl hne⟩

/-- At StopOn's exit CLOSE-FRAME takes the frame's total, and the budget is what is left of 4095. -/
theorem stopOn_exit_total {s t : State} (h : FrameInv s) (hst : s.st = codeStopOn) (htst : t.st = codeStopOff)
    (hexec : exec .stopOn s = .next t) :
    ((s.cur.toInt = -1 ∧ s.acc.toNat + countAfter s = dataTotal s.dc) ∨
      (s.cur = 31#6 ∧ s.acc.toNat + countAfter s = repeatTotal)) ∧
    s.acc.toNat + countAfter s + t.budget.toNat = 4095 := by
  obtain ⟨-, -, -, -, hdata, -⟩ := id h
  obtain ⟨-, hmax⟩ := dataTotal_bounds s.dc
  have hrepeat : repeatTotal = 449 := rfl
  have ht : threshold s.st s.budget = some 21#16 := by rw [hst]; rfl
  have hrow : exec .stopOn s = exec (decodeState s.st) s := by rw [hst]; rfl
  have hleft : t.st ≠ s.st := by rw [htst, hst]; decide
  obtain ⟨hiff, -⟩ := phaseExitsWhenTheCountPassesTheThreshold s t _ h ht (hrow.symm.trans hexec)
  obtain ⟨-, hcount, -⟩ := count_of_exceeds hdata ht (hiff.1 hleft)
  cases phaseView_of_phaseData hdata with
  | stopOn _ _ hframe =>
    have h22 : countAfter s = 22 := hcount
    rw [exec_stopOn_exit (by omega) (by omega)] at hexec
    cases hexec
    have hbudget : (stopOffEntry s).budget.toNat = 4095 - (s.acc.toNat + countAfter s) :=
      toNat_ofNat_of_le (by omega)
    exact ⟨by rw [h22]; exact hframe, by omega⟩
  | _ hst' => exact absurd (hst'.symm.trans hst) (by decide)

/-- Settles O42: R112's closed form, the bound on `acc`, and the total that CLOSE-FRAME takes. -/
theorem frameTotalClosedForm : Obligations.FrameTotalClosedForm := by
  refine ⟨fun dc => ⟨dataTotal_closed_form dc, dataTotal_bounds dc⟩, by decide, by decide, by decide, rfl,
    fun s ⟨_, _, _, _, hdata, _⟩ => acc_le_of_phaseData hdata, fun s t h hst htst hexec => ?_⟩
  obtain ⟨htotal, hbudget⟩ := stopOn_exit_total h hst htst hexec
  obtain ⟨hmin, hmax⟩ := dataTotal_bounds s.dc
  have hrepeat : repeatTotal = 449 := rfl
  refine ⟨?_, hbudget⟩
  rcases htotal with ⟨hcur, hsum⟩ | ⟨hcur, hsum⟩
  · exact .inl ⟨hcur, hsum, by omega, by omega⟩
  · exact .inr ⟨hcur, hsum, by omega⟩

end Sys2Proof.Proofs
end

section
/-! PROOF. Runs under the invariant: one step on given inputs, how long a phase lasts (40_tick_source.md R110) and how
long a frame does (R113). -/

namespace Sys2Proof.Proofs

open Sys2Proof.Machine Sys2Proof.Safety Sys2Proof.Laws

/-! ### One step -/

theorem frameClock_le_of_ne_stopOff {s : State} (h : phaseData s) (hst : s.st ≠ codeStopOff) :
    frameClock s ≤ 3604 := by
  have hacc := acc_le_of_phaseData h
  have hcnt : s.cnt.toNat ≤ 340 := by
    by_cases hidle : s.st = codeIdle
    · cases phaseView_of_phaseData h with
      | idle _ hcnt => simp [hcnt]
      | _ hst' => exact absurd (hst'.symm.trans hidle) (by decide)
    · obtain ⟨th, ht⟩ := exists_threshold h hidle
      exact (cnt_le_threshold h ht).trans (threshold_le h ht hst)
  rw [frameClock_of_ne_stopOff hst]
  omega

/-- A frame's clock runs from 0 to 4095 (40_tick_source.md R113). -/
theorem frameClock_lt {s : State} (h : phaseData s) : frameClock s < 4096 := by
  by_cases hst : s.st = codeStopOff
  · have hcnt := cnt_le_threshold (th := s.budget) h (by rw [hst]; rfl)
    have hbudget := budget_le_of_phaseData h hst
    rw [frameClock_stopOff hst]
    omega
  · have hbound := frameClock_le_of_ne_stopOff h hst
    omega

/-- The invariant after a cycle without `rst`, a fault or an Idle exit: the ticks counted move with the frame's
clock. -/
theorem frameInv_advance {s t : State} (hrst : s.rst = false) (hinv : BlockInv t) (hstrobe : t.tmrClr = false)
    (hclock : (s.tickNo + if s.armed && s.tick then 1 else 0) % 4096 = frameClock t) : FrameInv (advance s t) := by
  obtain ⟨hf, hr, hports, harmed, hdata⟩ := hinv
  have htickNo : tickNoAfter s t = s.tickNo + if s.armed && s.tick then 1 else 0 := by
    simp only [tickNoAfter, hrst, faulted_eq_false.2 hf, hstrobe, Bool.false_eq_true, if_false]
    split <;> rfl
  exact ⟨hf, hr, hports, harmed, hdata, by rw [advance_tickNo, htickNo]; exact hclock⟩

/-- A cycle of the state rule, as a step. -/
theorem step_of_exec {s t : State} (h : FrameInv s) (hrst : s.rst = false)
    (hexec : exec (decodeState s.st) s = .next t) : step s = .next (advance s t) := by
  obtain ⟨hf, hr, -, -, -, -⟩ := h
  rw [step_cycle hrst hf hr, hexec]
  rfl

/-- STAY keeps a phase's data while `cnt'` is within the threshold. -/
theorem phaseData_stayed {s : State} {th : BitVec 16} (h : phaseData s) (ht : threshold s.st s.budget = some th)
    (hcnt : (stayed s).cnt.toNat ≤ th.toNat) : phaseData (stayed s) := by
  apply phaseData_of_phaseView
  cases phaseView_of_phaseData h with
  | idle hst => rw [hst] at ht; cases ht
  | ldrOn hst _ hacc hcur => rw [hst] at ht; cases ht; exact .ldrOn hst hcnt hacc hcur
  | ldrOff hst _ hacc hcur => rw [hst] at ht; cases ht; exact .ldrOff hst hcnt hacc hcur
  | bitOn hst _ hcur hacc hbit => rw [hst] at ht; cases ht; exact .bitOn hst hcnt hcur hacc hbit
  | bit0Off hst _ hcur hacc hbit => rw [hst] at ht; cases ht; exact .bit0Off hst hcnt hcur hacc hbit
  | bit1Off hst _ hcur hacc hbit => rw [hst] at ht; cases ht; exact .bit1Off hst hcnt hcur hacc hbit
  | stopOn hst _ hframe => rw [hst] at ht; cases ht; exact .stopOn hst hcnt hframe
  | stopOff hst _ hacc hframe => rw [hst] at ht; cases ht; exact .stopOff hst hcnt hacc hframe
  | rptOn hst _ hacc hcur => rw [hst] at ht; cases ht; exact .rptOn hst hcnt hacc hcur
  | rptOff hst _ hacc hcur => rw [hst] at ht; cases ht; exact .rptOff hst hcnt hacc hcur

section
variable {s : State} {th : BitVec 16} (h : FrameInv s) (hrst : s.rst = false)
  (ht : threshold s.st s.budget = some th)
include h hrst ht

/-- Within its threshold a phase stays, and the step adds the cycle's tick to `cnt` and to the frame's clock. -/
theorem step_phase_stay (hle : countAfter s ≤ th.toNat) :
    step s = .next (advance s (stayed s)) ∧ FrameInv (advance s (stayed s)) ∧
      (advance s (stayed s)).cnt.toNat = countAfter s ∧
      frameClock (advance s (stayed s)) = frameClock s + if s.armed && s.tick then 1 else 0 := by
  obtain ⟨hf, hr, hports, harmed, hdata, hclock⟩ := id h
  have hlt := th.isLt
  have hcnt : (stayed s).cnt.toNat = countAfter s := toNat_ofNat_of_le (by omega)
  have hdata' := phaseData_stayed hdata ht (by omega)
  have hclock' : frameClock (stayed s) = frameClock s + if s.armed && s.tick then 1 else 0 := by
    rw [countAfter] at hcnt
    by_cases hst : s.st = codeStopOff
    · rw [frameClock_stopOff (s := stayed s) hst, frameClock_stopOff hst, hcnt, Nat.add_assoc]
      rfl
    · rw [frameClock_of_ne_stopOff (s := stayed s) hst, frameClock_of_ne_stopOff hst, hcnt, Nat.add_assoc]
      rfl
  have hbound := frameClock_lt hdata'
  exact ⟨step_of_exec h hrst (exec_phase_stay h ht hle),
    frameInv_advance hrst ⟨hf, hr, hports, harmed, hdata'⟩ rfl (by omega), hcnt, hclock'⟩

/-- Past its threshold a phase is left, and the invariant is kept. -/
theorem step_phase_exit (hlt : th.toNat < countAfter s) :
    ∃ t, exec (decodeState s.st) s = .next t ∧ step s = .next (advance s t) ∧ PhaseExit s t ∧
      FrameInv (advance s t) := by
  obtain ⟨t, hexec, hexit⟩ := exec_phase_exit h ht hlt
  obtain ⟨-, -, -, -, hdata, hclock⟩ := id h
  obtain ⟨-, -, -, -, hdata'⟩ := hexit.inv
  obtain ⟨hcnt, hcount, -⟩ := count_of_exceeds hdata ht hlt
  have hone : (if s.armed && s.tick then 1 else 0) = 1 := by
    rw [countAfter] at hcount
    omega
  have hbound := frameClock_lt hdata'
  have hnext := hexit.clock
  exact ⟨t, hexec, step_of_exec h hrst hexec, hexit,
    frameInv_advance hrst hexit.inv hexit.strobe (by rw [hone]; omega)⟩

end

/-! ### Runs on given inputs -/

theorem runInputs_cons {v : Bool × Bool} {rest : List (Bool × Bool)} {s t : State}
    (h : step (present v.1 v.2 s) = .next t) : runInputs (v :: rest) s = runInputs rest t := by
  rw [runInputs, h]

theorem runInputs_append {xs ys : List (Bool × Bool)} {s t : State} (h : runInputs xs s = some t) :
    runInputs (xs ++ ys) s = runInputs ys t := by
  induction xs generalizing s with
  | nil => cases h; rfl
  | cons v rest ih =>
    rw [List.cons_append]
    cases hstep : step (present v.1 v.2 s) with
    | next u =>
      rw [runInputs_cons hstep] at h ⊢
      exact ih h
    | fault f => simp [runInputs, hstep] at h
    | refused r => simp [runInputs, hstep] at h

theorem tickCount_cons (v : Bool × Bool) (rest : List (Bool × Bool)) :
    tickCount (v :: rest) = (if v.1 then 1 else 0) + tickCount rest := by
  rw [tickCount, List.countP_cons, Nat.add_comm]
  rfl

/-- In a transmission the count is `cnt` and the presented tick. -/
theorem countAfter_present {s : State} (harmed : s.armed = true) (tick btnN : Bool) :
    countAfter (present tick btnN s) = s.cnt.toNat + if tick then 1 else 0 := by
  simp [countAfter, present, harmed]

/-! ### The length of a phase -/

/-- While the ticks do not pass the threshold, the run stays in the phase and counts them. -/
theorem run_within_phase {s : State} {th : BitVec 16} (inputs : List (Bool × Bool)) (h : FrameInv s)
    (ht : threshold s.st s.budget = some th) (hle : s.cnt.toNat + tickCount inputs ≤ th.toNat) :
    ∃ t, runInputs inputs s = some t ∧ FrameInv t ∧ t.st = s.st ∧ t.budget = s.budget ∧
      t.cnt.toNat = s.cnt.toNat + tickCount inputs := by
  induction inputs generalizing s with
  | nil => exact ⟨s, rfl, h, rfl, rfl, rfl⟩
  | cons v rest ih =>
    have hidle : s.st ≠ codeIdle := fun hst => by rw [hst] at ht; cases ht
    have hcount := countAfter_present (armed_of_ne_idle h hidle) v.1 v.2
    rw [tickCount_cons] at hle ⊢
    obtain ⟨hstep, hinv, hcnt, -⟩ := step_phase_stay (s := present v.1 v.2 s) h rfl ht (by omega)
    obtain ⟨t, hrun, hinv', hst, hbudget, hcnt'⟩ := ih hinv ht (by omega)
    exact ⟨t, (runInputs_cons hstep).trans hrun, hinv', hst, hbudget, by omega⟩

/-- Settles O44: through threshold ticks the run stays in the phase, and the next tick passes the threshold. -/
theorem phaseLastsThresholdPlusOneTicks : Obligations.PhaseLastsThresholdPlusOneTicks := by
  intro s th inputs h hzero ht
  have hcnt : s.cnt.toNat = 0 := by rw [hzero]; rfl
  refine ⟨fun hle => ?_, fun heq btnN => ?_⟩
  · obtain ⟨t, hrun, -, hst, -, hcount⟩ := run_within_phase inputs h ht (by omega)
    exact ⟨t, hrun, hst, by omega⟩
  · obtain ⟨t, hrun, hinv, hst, hbudget, hcount⟩ := run_within_phase inputs h ht (by omega)
    have ht' : threshold t.st t.budget = some th := by rw [hst, hbudget, ht]
    have hidle : t.st ≠ codeIdle := fun hst => by rw [hst] at ht'; cases ht'
    have hlast := countAfter_present (armed_of_ne_idle hinv hidle) true btnN
    rw [if_pos rfl] at hlast
    obtain ⟨u, -, hstep, hexit, -⟩ := step_phase_exit (s := present true btnN t) hinv rfl ht' (by omega)
    refine ⟨_, (runInputs_append hrun).trans (runInputs_cons hstep), ?_, hexit.count⟩
    rw [advance_st, ← hst]
    exact hexit.leaves

/-! ### The length of a frame -/

/-- A step of a transmission before its frame's 4096th tick stays in the frame and adds the tick to its clock. -/
theorem step_within_frame {s : State} (h : FrameInv s) (hrst : s.rst = false) (hidle : s.st ≠ codeIdle)
    (hle : frameClock s + (if s.tick then 1 else 0) ≤ 4095) :
    ∃ t, step s = .next t ∧ FrameInv t ∧ t.st ≠ codeIdle ∧ frameClock t = frameClock s + if s.tick then 1 else 0 := by
  obtain ⟨-, -, -, -, hdata, -⟩ := id h
  obtain ⟨th, ht⟩ := exists_threshold hdata hidle
  have harmed := armed_of_ne_idle h hidle
  by_cases hlt : th.toNat < countAfter s
  · obtain ⟨hcnt, -, htick⟩ := count_of_exceeds hdata ht hlt
    obtain ⟨t, -, hstep, hexit, hinv⟩ := step_phase_exit h hrst ht hlt
    rw [htick, if_pos rfl] at hle ⊢
    have hclock := hexit.clock
    obtain ⟨-, -, -, -, hdata'⟩ := hexit.inv
    have hbound : frameClock t < 4096 := frameClock_lt hdata'
    have hnext : frameClock t = frameClock s + 1 := by omega
    refine ⟨_, hstep, hinv, fun hleft => ?_, hnext⟩
    have hst := hexit.idle_only hleft
    have hbudget : th = s.budget := by rw [hst] at ht; cases ht; rfl
    have hend := frameClock_at_end h hst (by rw [hcnt, hbudget])
    omega
  · obtain ⟨hstep, hinv, -, hclock⟩ := step_phase_stay h hrst ht (by omega)
    rw [harmed, Bool.true_and] at hclock
    exact ⟨_, hstep, hinv, hidle, hclock⟩

theorem run_within_frame {s : State} (inputs : List (Bool × Bool)) (h : FrameInv s) (hidle : s.st ≠ codeIdle)
    (hle : frameClock s + tickCount inputs ≤ 4095) :
    ∃ t, runInputs inputs s = some t ∧ FrameInv t ∧ t.st ≠ codeIdle ∧
      frameClock t = frameClock s + tickCount inputs := by
  induction inputs generalizing s with
  | nil => exact ⟨s, rfl, h, hidle, rfl⟩
  | cons v rest ih =>
    rw [tickCount_cons] at hle ⊢
    have hfirst : frameClock s + (if v.1 then 1 else 0) ≤ 4095 := by omega
    obtain ⟨t, hstep, hinv, hidle', hclock⟩ := step_within_frame (s := present v.1 v.2 s) h rfl hidle hfirst
    have hclock' : frameClock t = frameClock s + if v.1 then 1 else 0 := hclock
    obtain ⟨u, hrun, hinv', hidle'', hlast⟩ := ih hinv hidle' (by omega)
    exact ⟨u, (runInputs_cons hstep).trans hrun, hinv', hidle'', by omega⟩

/-- Only the last moment of StopOff has all of a frame's ticks but one behind it. -/
theorem stopOff_of_frameClock {s : State} (h : phaseData s) (hclock : frameClock s = 4095) :
    s.st = codeStopOff ∧ s.cnt.toNat = s.budget.toNat ∧ s.acc = 0#16 := by
  by_cases hst : s.st = codeStopOff
  · have hbudget := budget_le_of_phaseData h hst
    rw [frameClock_stopOff hst] at hclock
    cases phaseView_of_phaseData h with
    | stopOff _ _ hacc _ => exact ⟨hst, by omega, hacc⟩
    | _ hst' => exact absurd (hst'.symm.trans hst) (by decide)
  · have hbound := frameClock_le_of_ne_stopOff h hst
    omega

/-- Settles O43: a frame's clock counts its ticks, and it stands at 4095 only where StopOff's last tick is due. -/
theorem framesLastFourThousandNinetySixTicks : Obligations.FramesLastFourThousandNinetySixTicks := by
  refine ⟨phaseTicks_dataFrame, phaseTicks_repeatFrame, fun s inputs btnN h hst hzero hticks => ?_⟩
  have hcodes : s.st ≠ codeIdle ∧ s.st ≠ codeStopOff := by rcases hst with hst | hst <;> rw [hst] <;> decide
  obtain ⟨hidle, hstop⟩ := hcodes
  have hstart : frameClock s = 0 := by
    obtain ⟨-, -, -, -, hdata, -⟩ := id h
    rw [frameClock_of_ne_stopOff hstop, hzero]
    cases phaseView_of_phaseData hdata with
    | ldrOn _ _ hacc | rptOn _ _ hacc => rw [hacc]; rfl
    | _ hst' => rw [hst'] at hst; exact absurd hst (by decide)
  obtain ⟨t, hrun, hinv, hidle', hclock⟩ := run_within_frame inputs h hidle (by omega)
  obtain ⟨-, -, -, -, hdata, -⟩ := id hinv
  obtain ⟨hend, hcnt, hacc⟩ := stopOff_of_frameClock hdata (by omega)
  have hcount := countAfter_present (armed_of_ne_idle hinv hidle') true btnN
  rw [if_pos rfl, hcnt] at hcount
  obtain ⟨u, hexec, -, hnext⟩ := exit_stopOff (s := present true btnN t) hinv hend hcnt hcount hacc
  have hrow : exec (decodeState (present true btnN t).st) (present true btnN t) = .next u := by
    rw [show (present true btnN t).st = codeStopOff from hend]
    exact hexec
  exact ⟨t, _, hrun, hend, (runInputs_append hrun).trans (runInputs_cons (step_of_exec hinv rfl hrow)), hnext⟩

end Sys2Proof.Proofs
end

section
/-! PROOF. The modelled timer (40_tick_source.md R100, R115; log 5): it keeps its contract, and the first tick comes
CLK_PER_TICK cycles after the Idle exit. -/

namespace Sys2Proof.Proofs

open Sys2Proof.Machine Sys2Proof.Safety Sys2Proof.Laws

/-! ### The timer's contract -/

theorem nextLeft_le {t : State} (hleft : t.tmrLeft ≤ t.clkPerTick) : nextLeft t ≤ t.clkPerTick := by
  unfold nextLeft
  split_ifs <;> omega

theorem tmrEn_of_nextTick {t : State} (h : nextTick t = true) : t.tmrEn = true :=
  (Bool.and_eq_true_iff.1 h).1

/-- The environment's moves keep the contract, whatever the block did to its outputs. -/
theorem timerInv_advance {s t : State} (hclk : 1 ≤ t.clkPerTick) (hleft : t.tmrLeft ≤ t.clkPerTick) :
    TimerInv (advance s t) :=
  ⟨hclk, nextLeft_le hleft, tmrEn_of_nextTick⟩

/-- A clock cycle reloads the countdown or leaves it as it was. -/
theorem exec_state_tmrLeft {i : Instr} {s t : State} (hi : i.format = .state) (h : exec i s = .next t) :
    t.tmrLeft = s.tmrLeft ∨ t.tmrLeft = s.clkPerTick := by
  cases exec_state_cases hi h with
  | idleExit => exact .inr rfl
  | _ => exact .inl rfl

/-- Settles O57: a reset or stuck cycle leaves the countdown, a state rule leaves or reloads it. -/
theorem ticksComeOnlyWhileEnabled : Obligations.TicksComeOnlyWhileEnabled := by
  rintro s t ⟨hclk, hleft, -⟩ hreplay h
  rcases step_cases h with ⟨-, rfl⟩ | ⟨-, -, rfl⟩ | ⟨-, -, -, u, hu, rfl⟩ | ⟨-, -, rec, rest, i, hr, -, -⟩
  · exact timerInv_advance hclk hleft
  · exact timerInv_advance hclk hleft
  · have hclk' : u.clkPerTick = s.clkPerTick := exec_clkPerTick hu
    rcases exec_state_tmrLeft (decodeState_format s.st) hu with hl | hl
    · exact timerInv_advance (by omega) (by omega)
    · exact timerInv_advance (by omega) (by omega)
  · rw [hreplay] at hr
    cases hr

/-! ### The first tick -/

/-- LeaderOn, `n` cycles after the Idle exit and with no tick counted, under a script, the period being `clk` cycles:
the coming cycle has the first tick exactly when the whole period is over. -/
structure FirstPeriod (clk n : Nat) (s : State) : Prop where
  inv : FrameInv s
  st : s.st = codeLdrOn
  cnt : s.cnt = 0#16
  rst : s.rst = false
  script : ∃ events, s.button = .script events
  tick : s.tick = decide (n = clk)
  period : s.clkPerTick = clk
  left : n < clk → s.tmrLeft = clk - n

theorem frameInv_leaderEntry {s : State} (h : FrameInv s) (hexec : exec .idle s = .next (leaderEntry s)) :
    FrameInv (advance s (leaderEntry s)) := by
  obtain ⟨hf, hr, -, -, -, -⟩ := h
  have htickNo : tickNoAfter s (leaderEntry s) = 0 := by
    have hnot : faulted (leaderEntry s) = false := faulted_eq_false.2 hf
    have hstrobe : (leaderEntry s).tmrClr = true := rfl
    simp [tickNoAfter, hnot, hstrobe]
  have hdata : phaseData (leaderEntry s) := phaseData_of_phaseView (.ldrOn rfl (Nat.zero_le _) rfl rfl)
  have hports := portsAgree_of_exec_state (i := .idle) rfl hexec hf
  exact ⟨hf, hr, hports, rfl, hdata, by rw [advance_tickNo, htickNo]; rfl⟩

/-- A script has no reset line, and it goes on being one. -/
theorem advance_script {s t : State} {events : List ButtonEvent} (h : t.button = .script events) :
    (advance s t).rst = false ∧ ∃ rest, (advance s t).button = .script rest := by
  simp [nextReset, nextButton_script h, h]

/-- The Idle exit starts the first period. -/
theorem firstPeriod_of_press {s : State} {events : List ButtonEvent} (h : FrameInv s) (hst : s.st = codeIdle)
    (hrst : s.rst = false) (hb : s.btnN = false) (hs : s.button = .script events) (hclk : 1 ≤ s.clkPerTick) :
    ∃ t, step s = .next t ∧ FirstPeriod s.clkPerTick 1 t := by
  obtain ⟨-, -, -, hidle⟩ := countNeverExceedsThreeThousandSixHundredFortySeven s h
  obtain ⟨-, hcount⟩ := hidle hst
  have hexec := exec_idle_press (s := s) (by omega) hb
  have hrow : exec (decodeState s.st) s = .next (leaderEntry s) := by
    rw [hst]
    exact hexec
  obtain ⟨hrst', hscript⟩ := advance_script (s := s) (t := leaderEntry s) hs
  have htick : nextTick (leaderEntry s) = decide (1 = s.clkPerTick) := by
    have hiff : s.clkPerTick ≤ 1 ↔ 1 = s.clkPerTick := by omega
    simp [nextTick, leaderEntry, hiff]
  refine ⟨_, step_of_exec h hrst hrow, {
    inv := frameInv_leaderEntry h hexec
    st := rfl
    cnt := rfl
    rst := hrst'
    script := hscript
    tick := htick
    period := rfl
    left := fun hlt => ?_ }⟩
  rw [advance_tmrLeft, nextLeft, htick, if_neg (by simp; omega)]
  rfl

/-- A cycle of the first period that is not its last: LeaderOn stays, and the countdown goes on. -/
theorem firstPeriod_step {clk n : Nat} {s : State} (h : FirstPeriod clk n s) (hlt : n < clk) :
    ∃ t, step s = .next t ∧ FirstPeriod clk (n + 1) t := by
  obtain ⟨hinv, hst, hcnt, hrst, ⟨events, hs⟩, htick, hclk, hleft⟩ := h
  have hno : s.tick = false := by rw [htick]; exact decide_eq_false (by omega)
  have hcount : countAfter s = 0 := by simp [countAfter, hno, hcnt]
  obtain ⟨hstep, hinv', hcnt', -⟩ :=
    step_phase_stay hinv hrst (th := 340#16) (by rw [hst]; rfl) (by omega)
  obtain ⟨hrst', hscript⟩ := advance_script (s := s) (t := stayed s) hs
  have hen : (stayed s).tmrEn = true := by
    obtain ⟨-, -, ⟨-, hen⟩, -, -, -⟩ := id hinv
    exact hen.trans (armed_of_ne_idle hinv (by rw [hst]; decide))
  have hleft' : (stayed s).tmrLeft = clk - n := hleft hlt
  have htick' : nextTick (stayed s) = decide (n + 1 = clk) := by
    have hiff : clk - n ≤ 1 ↔ n + 1 = clk := by omega
    simp [nextTick, hen, hleft', hiff]
  refine ⟨_, hstep, {
    inv := hinv'
    st := hst
    cnt := BitVec.eq_of_toNat_eq (hcnt'.trans hcount)
    rst := hrst'
    script := hscript
    tick := htick'
    period := hclk
    left := fun hlt' => ?_ }⟩
  rw [advance_tmrLeft, nextLeft, htick', if_neg (by simp; omega), if_pos hen, hleft']
  omega

theorem run_succ_of_step (M : Host.Core) {k : Nat} {s t : M.State} (h : M.step s = .next t) :
    M.run (k + 1) s = M.run k t := by
  rw [Host.Core.run, h]

theorem firstPeriod_run {clk : Nat} (k : Nat) {n : Nat} {s : State} (h : FirstPeriod clk n s) (hle : n + k ≤ clk) :
    ∃ t, Host.Core.run core k s = .next t ∧ FirstPeriod clk (n + k) t := by
  induction k generalizing n s with
  | zero => exact ⟨s, rfl, h⟩
  | succ k ih =>
    obtain ⟨t, hstep, ht⟩ := firstPeriod_step h (by omega)
    obtain ⟨u, hrun, hu⟩ := ih ht (by omega)
    exact ⟨u, (run_succ_of_step core hstep).trans hrun, by rwa [show n + (k + 1) = n + 1 + k by omega]⟩

/-- Settles O58: the Idle exit starts the period, and each of its cycles before the last keeps LeaderOn waiting. -/
theorem firstTickComesOnePeriodAfterArming : Obligations.FirstTickComesOnePeriodAfterArming := by
  intro s events n h hst hrst hb hs h1 hle
  obtain ⟨k, rfl⟩ := Nat.exists_eq_add_of_le h1
  obtain ⟨t, hstep, ht⟩ := firstPeriod_of_press h hst hrst hb hs (by omega)
  obtain ⟨u, hrun, hu⟩ := firstPeriod_run k ht hle
  rw [Nat.add_comm 1 k] at hu ⊢
  exact ⟨u, (run_succ_of_step core hstep).trans hrun, hu.st, hu.cnt, hu.tick⟩

end Sys2Proof.Proofs
end

section
/-! PROOF. The gate over a clock cycle (41_subcarrier_output.md R120 to R126; 30_encoding.md R76): the transitions of
the state table, the PWM_DUTY records that come with them and the levels of the output ports. -/

namespace Sys2Proof.Proofs

open Sys2Proof.Machine Sys2Proof.Safety Sys2Proof.Laws

/-! ### The transitions and their PWM_DUTY records -/

/-- The transitions into a mark (R121). -/
def markEntries : List (BitVec 4 × BitVec 4) :=
  [(codeIdle, codeLdrOn), (codeLdrOff, codeBitOn), (codeBit0Off, codeBitOn), (codeBit0Off, codeStopOn),
    (codeBit1Off, codeBitOn), (codeBit1Off, codeStopOn), (codeStopOff, codeRptOn), (codeRptOff, codeStopOn)]

/-- The transitions into a space that is not Idle (R122). -/
def spaceEntries : List (BitVec 4 × BitVec 4) :=
  [(codeLdrOn, codeLdrOff), (codeBitOn, codeBit0Off), (codeBitOn, codeBit1Off), (codeStopOn, codeStopOff),
    (codeRptOn, codeRptOff)]

/-- What a cycle does to the gate: the transition it makes, if any, and the PWM_DUTY records it emits. -/
inductive GateCycle (s t : State) : Prop
  | hold (hst : t.st = s.st) (heff : ∀ n, Effect.pwmDuty n ∉ t.effects)
  | mark (hst : (s.st, t.st) ∈ markEntries) (heff : ∀ n, Effect.pwmDuty n ∈ t.effects ↔ n = 70#8)
  | space (hst : (s.st, t.st) ∈ spaceEntries) (heff : ∀ n, Effect.pwmDuty n ∈ t.effects ↔ n = 0#8)
  | terminate (hs : s.st = codeStopOff) (ht : t.st = codeIdle) (heff : ∀ n, Effect.pwmDuty n ∉ t.effects)

/-- The marks that the rows' exits lead to, by the code that dispatches to the row. -/
theorem mem_markEntries : ∀ code : BitVec 4,
    (decodeState code = .idle → (code, codeLdrOn) ∈ markEntries) ∧
    (decodeState code ∈ [.ldrOff, .bit0Off, .bit1Off] → (code, codeBitOn) ∈ markEntries) ∧
    (decodeState code ∈ [.bit0Off, .bit1Off, .rptOff] → (code, codeStopOn) ∈ markEntries) ∧
    (decodeState code = .stopOff → (code, codeRptOn) ∈ markEntries) := by
  decide

/-- The spaces other than Idle that the rows' exits lead to, by the code that dispatches to the row. -/
theorem mem_spaceEntries : ∀ code : BitVec 4,
    (∀ c, (decodeState code, c) ∈ toSpaceRows → (code, c) ∈ spaceEntries) ∧
    (decodeState code = .stopOn → (code, codeStopOff) ∈ spaceEntries) := by
  decide

/-- The codes of the rows with exits of their own. -/
theorem eq_code_of_decodeState : ∀ code : BitVec 4,
    (decodeState code = .idle → code = codeIdle) ∧ (decodeState code = .stopOn → code = codeStopOn) ∧
    (decodeState code = .stopOff → code = codeStopOff) := by
  decide

/-- Everything a cycle can do to the gate, from any state. -/
theorem gateCycle_of_exec {s t : State} (h : exec (decodeState s.st) s = .next t) : GateCycle s t := by
  obtain ⟨hidle, hbit, hstop, hagain⟩ := mem_markEntries s.st
  obtain ⟨hspace, hclose⟩ := mem_spaceEntries s.st
  obtain ⟨-, -, hdone⟩ := eq_code_of_decodeState s.st
  have hcycle := exec_state_cases (decodeState_format s.st) h
  generalize decodeState s.st = i at hcycle hidle hbit hstop hagain hspace hclose hdone
  cases hcycle with
  | fault | stay => exact .hold rfl (by simp [stayed])
  | idleStay => exact .hold rfl (by simp)
  | idleExit => exact .mark (hidle rfl) (by simp)
  | mark _ _ hi => exact .mark (hstop hi) (by simp)
  | bit _ _ hi => exact .mark (hbit hi) (by simp)
  | again => exact .mark (hagain rfl) (by simp)
  | space _ c _ hi => exact .space (hspace c hi) (by simp)
  | close => exact .space (hclose rfl) (by simp)
  | done => exact .terminate (hdone rfl) rfl (by simp)

/-- A transition into a mark turns the gate on. -/
theorem markEntries_gate : ∀ a b, (a, b) ∈ markEntries →
    gateOf a = false ∧ gateOf b = true ∧ b ∈ [codeLdrOn, codeBitOn, codeStopOn, codeRptOn] := by
  decide

/-- A transition into a space turns the gate off. -/
theorem spaceEntries_gate : ∀ a b, (a, b) ∈ spaceEntries →
    gateOf a = true ∧ gateOf b = false ∧ b ∈ [codeLdrOff, codeBit0Off, codeBit1Off, codeStopOff, codeRptOff] := by
  decide

/-- Settles O52: the transitions into marks and spaces flip the gate, and the only other one is TERMINATE's. -/
theorem transitionsFlipTheGate : Obligations.TransitionsFlipTheGate := by
  intro s t h hne
  cases gateCycle_of_exec h with
  | hold hst => exact absurd hst hne
  | mark hst =>
    obtain ⟨hoff, hon, -⟩ := markEntries_gate _ _ hst
    refine ⟨(by decide : markEntries ⊆ _) hst, iff_of_false ?_ ?_⟩
    · simp [gate, hoff, hon]
    · rintro ⟨-, ht⟩
      simp [ht, gateOf, codeIdle] at hon
  | space hst =>
    obtain ⟨hon, hoff, -⟩ := spaceEntries_gate _ _ hst
    refine ⟨(by decide : spaceEntries ⊆ _) hst, iff_of_false ?_ ?_⟩
    · simp [gate, hoff, hon]
    · rintro ⟨hs, -⟩
      simp [hs, gateOf, codeStopOff] at hon
  | terminate hs ht => exact ⟨by rw [hs, ht]; decide, iff_of_true (by rw [gate, gate, hs, ht]; rfl) ⟨hs, ht⟩⟩

/-! ### The duty output -/

/-- A cycle of the state rule keeps `duty` at the gate's level, in a cycle that raises a fault too (R123). -/
theorem duty_of_exec {s t : State} (h : exec (decodeState s.st) s = .next t)
    (hs : s.duty = if gate s then 70#8 else 0#8) : t.duty = if gate t then 70#8 else 0#8 := by
  obtain ⟨rule, hrule⟩ := exec_state_eq (decodeState_format s.st) s
  rw [hrule] at h
  rcases blockCycle_cases h with ⟨u, -, -, rfl⟩ | ⟨f, rfl⟩
  · rfl
  · exact hs

/-- PWM_DUTY is emitted exactly in the cycles that change `duty` (R123). -/
theorem pwmDuty_mem_iff_duty_changes {s t : State} (h : exec (decodeState s.st) s = .next t)
    (hs : s.duty = if gate s then 70#8 else 0#8) : (∃ n, Effect.pwmDuty n ∈ t.effects) ↔ t.duty ≠ s.duty := by
  rw [duty_of_exec h hs, hs]
  cases gateCycle_of_exec h with
  | hold hst heff =>
    have hgate : gate t = gate s := congrArg gateOf hst
    simp [heff, hgate]
  | mark hst heff =>
    obtain ⟨hoff, hon, -⟩ := markEntries_gate _ _ hst
    simp [heff, gate, hoff, hon]
  | space hst heff =>
    obtain ⟨hon, hoff, -⟩ := spaceEntries_gate _ _ hst
    simp [heff, gate, hoff, hon]
  | terminate hst ht heff => simp [heff, gate, hst, ht, gateOf, codeStopOff, codeIdle]

/-- PWM_DUTY(70) comes exactly with the transitions into a mark, PWM_DUTY(0) with those into a space but Idle
(R121, R122). -/
theorem pwmDuty_mem_iff_entry {s t : State} (h : exec (decodeState s.st) s = .next t) :
    (Effect.pwmDuty 70#8 ∈ t.effects ↔ t.st ∈ [codeLdrOn, codeBitOn, codeStopOn, codeRptOn] ∧ t.st ≠ s.st) ∧
    (Effect.pwmDuty 0#8 ∈ t.effects ↔
      t.st ∈ [codeLdrOff, codeBit0Off, codeBit1Off, codeStopOff, codeRptOff] ∧ t.st ≠ s.st) := by
  have hmarks : ∀ b ∈ [codeLdrOn, codeBitOn, codeStopOn, codeRptOn],
    b ∉ [codeLdrOff, codeBit0Off, codeBit1Off, codeStopOff, codeRptOff] := by decide
  cases gateCycle_of_exec h with
  | hold hst heff => simp [heff, hst]
  | mark hst heff =>
    obtain ⟨hoff, hon, hmark⟩ := markEntries_gate _ _ hst
    have hne : t.st ≠ s.st := fun he => by rw [he, hoff] at hon; cases hon
    rw [heff, heff]
    exact ⟨iff_of_true rfl ⟨hmark, hne⟩, iff_of_false (by decide) fun hspace => hmarks _ hmark hspace.1⟩
  | space hst heff =>
    obtain ⟨hon, hoff, hspace⟩ := spaceEntries_gate _ _ hst
    have hne : t.st ≠ s.st := fun he => by rw [he, hon] at hoff; cases hoff
    rw [heff, heff]
    exact ⟨iff_of_false (by decide) fun hmark => hmarks _ hmark.1 hspace, iff_of_true rfl ⟨hspace, hne⟩⟩
  | terminate _ ht heff =>
    rw [ht]
    exact ⟨iff_of_false (heff _) fun hmark => absurd hmark.1 (by decide),
      iff_of_false (heff _) fun hspace => absurd hspace.1 (by decide)⟩

/-- Settles O25: the encodings and the operations alone by definition, a cycle's records by the transition it makes. -/
theorem gateOperationsRule : Obligations.GateOperationsRule := by
  refine ⟨⟨rfl, rfl⟩, fun s => ⟨rfl, rfl⟩, fun s t h hf => ?_, fun s t hs h =>
    ⟨duty_of_exec h hs, pwmDuty_mem_iff_duty_changes h hs⟩⟩
  obtain ⟨hon, hoff⟩ := pwmDuty_mem_iff_entry h
  obtain ⟨hduty, -⟩ := portsAgree_of_exec_state (decodeState_format s.st) h hf
  exact ⟨hon, hoff, hduty⟩

/-- Settles O38: the ratio is n / 210 by definition, and no kind of cycle emits another n than 70 or 0. -/
theorem dutyRatioIsOneThird : Obligations.DutyRatioIsOneThird := by
  have hratio : ∀ n : BitVec 8, dutyRatio n = (n.toNat : ℚ) / 210 := fun n => Rat.mkRat_eq_div ..
  refine ⟨by rw [hratio]; norm_num, by rw [hratio]; norm_num, fun n => by rw [hratio]; ring, fun s t n h hn => ?_⟩
  cases gateCycle_of_exec h with
  | hold _ heff | terminate _ _ heff => exact absurd hn (heff n)
  | mark _ heff => exact .inl ((heff n).1 hn)
  | space _ heff => exact .inr ((heff n).1 hn)

/-! ### The effects and the ports -/

/-- A cycle's effects take the ports from their old levels, the strobe down, to the new ones (30_encoding.md R76). -/
theorem foldl_portsAfter_of_exec {s t : State} (hports : portsAgree s) (h : exec (decodeState s.st) s = .next t)
    (hf : t.faults = []) :
    t.effects.foldl portsAfter (s.duty, s.tmrEn, false) = (t.duty, t.tmrEn, t.tmrClr) := by
  obtain ⟨hduty, hen⟩ := hports
  obtain ⟨-, -, hdone⟩ := eq_code_of_decodeState s.st
  have hcycle := exec_state_cases (decodeState_format s.st) h
  generalize decodeState s.st = i at hcycle hdone
  cases hcycle with
  | fault _ f => exact absurd hf (recordFault_ne_nil _ f)
  | idleStay | stay =>
    rw [hduty, hen]
    rfl
  | space | mark | bit | close | again =>
    rw [hen]
    rfl
  | idleExit => rfl
  | done =>
    rw [hduty, hdone rfl]
    rfl

/-- Settles O54: the effects by the kind of cycle, PWM_DUTY by the transition, the ports by the cycle's end. -/
theorem effectsMoveThePorts : Obligations.EffectsMoveThePorts := by
  intro s t hports _ h hf
  obtain ⟨hduty, -⟩ := id hports
  exact ⟨foldl_portsAfter_of_exec hports h hf, pwmDuty_mem_iff_duty_changes h hduty,
    portsAgree_of_exec_state (decodeState_format s.st) h hf⟩

end Sys2Proof.Proofs
end

section
/-! PROOF. The frames tick by tick (41_subcarrier_output.md R130; 42_protocol_encoder.md R160): the state code at each
tick of a frame, the frame a state of a transmission belongs to and its place there. -/

namespace Sys2Proof.Proofs

open Sys2Proof.Machine Sys2Proof.Safety Sys2Proof.Laws

/-! ### The state code at each tick of a list of phases -/

theorem codesAtTicks_append (xs ys : List Phase) : codesAtTicks (xs ++ ys) = codesAtTicks xs ++ codesAtTicks ys :=
  List.flatMap_append

theorem length_codesAtTicks (phases : List Phase) : (codesAtTicks phases).length = phaseTicks phases := by
  simp [codesAtTicks, phaseTicks, List.length_flatMap]

/-- The ticks of a phase, which begin where those of the phases before it end, hold its code. -/
theorem codesAtTicks_getElem? {phases : List Phase} (before after : List Phase) {c : BitVec 4} {len i : Nat}
    (hphases : phases = before ++ (c, len) :: after) (hlo : phaseTicks before ≤ i)
    (hhi : i < phaseTicks before + len) : (codesAtTicks phases)[i]? = some c := by
  have hlen := length_codesAtTicks before
  have hrest : codesAtTicks ((c, len) :: after) = List.replicate len c ++ codesAtTicks after := rfl
  rw [hphases, codesAtTicks_append, List.getElem?_append_right (by omega), hlen, hrest,
    List.getElem?_append_left (by rw [List.length_replicate]; omega), List.getElem?_replicate_of_lt (by omega)]

/-! ### The phases of a repeat frame -/

section
variable {i : Nat}

theorem repeatFrame_at_rptOn (hhi : i < 341) : (codesAtTicks repeatFrame)[i]? = some codeRptOn :=
  codesAtTicks_getElem? [] _ rfl (Nat.zero_le i) (Nat.lt_add_left 0 hhi)

theorem repeatFrame_at_rptOff (hlo : 341 ≤ i) (hhi : i < 427) : (codesAtTicks repeatFrame)[i]? = some codeRptOff :=
  codesAtTicks_getElem? [(codeRptOn, 341)] _ rfl hlo hhi

theorem repeatFrame_at_stopOn (hlo : 427 ≤ i) (hhi : i < 449) : (codesAtTicks repeatFrame)[i]? = some codeStopOn :=
  codesAtTicks_getElem? [(codeRptOn, 341), (codeRptOff, 86)] _ rfl hlo hhi

theorem repeatFrame_at_stopOff (hlo : 449 ≤ i) (hhi : i < 4096) :
    (codesAtTicks repeatFrame)[i]? = some codeStopOff :=
  codesAtTicks_getElem? [(codeRptOn, 341), (codeRptOff, 86), (codeStopOn, 22)] [] rfl hlo hhi

end

/-! ### The phases of a data frame -/

/-- The phases of a data frame before its k-th bit. -/
def phasesBeforeBit (dc : BitVec 32) (k : Nat) : List Phase :=
  [(codeLdrOn, 341), (codeLdrOff, 171)] ++ (List.range k).flatMap fun j => bitPhases (sentBit dc j)

theorem phaseTicks_phasesBeforeBit (dc : BitVec 32) (k : Nat) :
    phaseTicks (phasesBeforeBit dc k) = 512 + bitTicks dc k := by
  rw [phasesBeforeBit, phaseTicks_append, phaseTicks_bits]
  rfl

/-- A data frame around its k-th bit. -/
theorem dataFrame_at_bit (dc : BitVec 32) {k : Nat} (hk : k < 32) :
    ∃ after, dataFrame dc = phasesBeforeBit dc k ++ (bitPhases (sentBit dc k) ++ after) := by
  obtain ⟨m, hm⟩ := Nat.exists_eq_add_of_lt hk
  refine ⟨((List.range m).map fun j => k + 1 + j).flatMap (fun j => bitPhases (sentBit dc j)) ++
    [(codeStopOn, 22), (codeStopOff, framePeriods - dataTotal dc + 1)], ?_⟩
  rw [dataFrame, show 32 = k + 1 + m by omega, List.range_add, List.range_succ]
  simp [phasesBeforeBit]

section
variable {dc : BitVec 32} {i k : Nat}

theorem dataFrame_at_ldrOn (hhi : i < 341) : (codesAtTicks (dataFrame dc))[i]? = some codeLdrOn :=
  codesAtTicks_getElem? [] _ rfl (Nat.zero_le i) (Nat.lt_add_left 0 hhi)

theorem dataFrame_at_ldrOff (hlo : 341 ≤ i) (hhi : i < 512) : (codesAtTicks (dataFrame dc))[i]? = some codeLdrOff :=
  codesAtTicks_getElem? [(codeLdrOn, 341)] _ rfl hlo hhi

theorem dataFrame_at_bitOn (hk : k < 32) (hlo : 512 + bitTicks dc k ≤ i) (hhi : i < 512 + bitTicks dc k + 22) :
    (codesAtTicks (dataFrame dc))[i]? = some codeBitOn := by
  obtain ⟨after, hframe⟩ := dataFrame_at_bit dc hk
  have hbefore := phaseTicks_phasesBeforeBit dc k
  exact codesAtTicks_getElem? _ _ hframe (by omega) (by omega)

theorem dataFrame_at_bitSpace (hk : k < 32) (hlo : 512 + bitTicks dc k + 22 ≤ i)
    (hhi : i < 512 + bitTicks dc k + bitLength (sentBit dc k)) :
    (codesAtTicks (dataFrame dc))[i]? = some (if sentBit dc k then codeBit1Off else codeBit0Off) := by
  obtain ⟨after, hframe⟩ := dataFrame_at_bit dc hk
  have hbefore : phaseTicks (phasesBeforeBit dc k ++ [(codeBitOn, 22)]) = 512 + bitTicks dc k + 22 := by
    rw [phaseTicks_append, phaseTicks_phasesBeforeBit]
    rfl
  rw [bitLength] at hhi
  refine codesAtTicks_getElem? (len := if sentBit dc k then 64 else 21) (phasesBeforeBit dc k ++ [(codeBitOn, 22)])
    after ?_ (by omega) (by omega)
  cases hb : sentBit dc k <;> simp [hframe, hb, bitPhases]

theorem dataFrame_at_stopOn (hlo : dataTotal dc ≤ i + 22) (hhi : i < dataTotal dc) :
    (codesAtTicks (dataFrame dc))[i]? = some codeStopOn := by
  have hbefore := phaseTicks_phasesBeforeBit dc 32
  rw [dataTotal] at hlo hhi
  exact codesAtTicks_getElem? (phasesBeforeBit dc 32) _ rfl (by omega) (by omega)

theorem dataFrame_at_stopOff (hlo : dataTotal dc ≤ i) (hhi : i < 4096) :
    (codesAtTicks (dataFrame dc))[i]? = some codeStopOff := by
  obtain ⟨-, hmax⟩ := dataTotal_bounds dc
  have hbefore : phaseTicks (phasesBeforeBit dc 32 ++ [(codeStopOn, 22)]) = dataTotal dc := by
    rw [phaseTicks_append, phaseTicks_phasesBeforeBit]
    rfl
  exact codesAtTicks_getElem? (len := framePeriods - dataTotal dc + 1) (phasesBeforeBit dc 32 ++ [(codeStopOn, 22)]) []
    (by rw [List.append_assoc]; rfl) (by omega) (by rw [framePeriods]; omega)

end

/-! ### The frame a state belongs to -/

/-- The states that a repeat frame alone has. -/
abbrev repeatCodes : List (BitVec 4) := [codeRptOn, codeRptOff]

/-- The states that both frames end with. -/
abbrev stopCodes : List (BitVec 4) := [codeStopOn, codeStopOff]

/-- The states of a repeat frame; StopOn and StopOff belong to one while `cur` is back at its start. -/
abbrev inRepeatFrame (s : State) : Prop := s.st ∈ repeatCodes ∨ (s.st ∈ stopCodes ∧ s.cur = 31#6)

/-- The frame on the air in a state of a transmission. -/
def frameOf (s : State) : List Phase := if inRepeatFrame s then repeatFrame else dataFrame s.dc

theorem inRepeatFrame_stop {s : State} {c : BitVec 4} (hst : s.st = c) (hc : c ∈ stopCodes) :
    inRepeatFrame s ↔ s.cur = 31#6 := by
  have hdisjoint : ∀ c ∈ stopCodes, c ∉ repeatCodes := by decide
  simp only [inRepeatFrame, hst, hc, hdisjoint c hc, false_or, true_and]

theorem inRepeatFrame_of_not_stop {s : State} {c : BitVec 4} (hst : s.st = c) (hc : c ∉ stopCodes) :
    inRepeatFrame s ↔ c ∈ repeatCodes := by
  simp only [inRepeatFrame, hst, hc, false_and, or_false]

theorem frameOf_repeat {s : State} (h : inRepeatFrame s) : frameOf s = repeatFrame := if_pos h

theorem frameOf_data {s : State} (h : ¬inRepeatFrame s) : frameOf s = dataFrame s.dc := if_neg h

/-- The states before the stop bit belong to the frame of their own. -/
theorem frameOf_of_not_stop {s : State} {c : BitVec 4} (hst : s.st = c) (hc : c ∉ stopCodes) :
    frameOf s = if c ∈ repeatCodes then repeatFrame else dataFrame s.dc :=
  if_congr (inRepeatFrame_of_not_stop hst hc) rfl rfl

/-- A state of a transmission is the one its frame has at the frame's clock. -/
theorem codeAt_frameClock {s : State} (h : phaseData s) (hidle : s.st ≠ codeIdle) :
    (codesAtTicks (frameOf s))[frameClock s]? = some s.st := by
  have hclock : s.st ≠ codeStopOff → frameClock s = s.acc.toNat + s.cnt.toNat := frameClock_of_ne_stopOff
  have hend := frameClock_lt h
  have hrepeat : repeatTotal = 449 := rfl
  have hdone : s.cur.toInt = -1 → s.cur ≠ 31#6 := fun hcur hstart => by
    rw [hstart] at hcur
    exact absurd hcur (by decide)
  cases phaseView_of_phaseData h with
  | idle hst => exact absurd hst hidle
  | ldrOn hst hcnt hacc =>
    rw [frameOf_of_not_stop hst (by decide), hst, hclock (by rw [hst]; decide), hacc]
    exact dataFrame_at_ldrOn (by rw [BitVec.toNat_zero]; omega)
  | ldrOff hst hcnt hacc =>
    rw [frameOf_of_not_stop hst (by decide), hst, hclock (by rw [hst]; decide)]
    exact dataFrame_at_ldrOff (by omega) (by omega)
  | bitOn hst hcnt hcur hacc =>
    have hsent := bitsSent_le hcur
    rw [frameOf_of_not_stop hst (by decide), hst, hclock (by rw [hst]; decide)]
    exact dataFrame_at_bitOn (k := bitsSent s) (by omega) (by omega) (by omega)
  | bit0Off hst hcnt hcur hacc hbit | bit1Off hst hcnt hcur hacc hbit =>
    have hsent := bitsSent_le hcur
    rw [frameOf_of_not_stop hst (by decide), hst, hclock (by rw [hst]; decide)]
    refine (dataFrame_at_bitSpace (k := bitsSent s) (by omega) (by omega) ?_).trans (by rw [hbit]; rfl)
    simp only [hbit, bitLength, if_true, Bool.false_eq_true, if_false]
    omega
  | stopOn hst hcnt hframe =>
    have hsum := hclock (by rw [hst]; decide)
    rcases hframe with ⟨hcur, htotal⟩ | ⟨hcur, htotal⟩
    · rw [frameOf_data fun hstart => hdone hcur ((inRepeatFrame_stop hst (by decide)).1 hstart), hst]
      exact dataFrame_at_stopOn (by omega) (by omega)
    · rw [frameOf_repeat ((inRepeatFrame_stop hst (by decide)).2 hcur), hst]
      exact repeatFrame_at_stopOn (by omega) (by omega)
  | stopOff hst hcnt _ hframe =>
    have hsum := frameClock_stopOff hst
    rcases hframe with ⟨hcur, htotal⟩ | ⟨hcur, htotal⟩
    · rw [frameOf_data fun hstart => hdone hcur ((inRepeatFrame_stop hst (by decide)).1 hstart), hst]
      exact dataFrame_at_stopOff (by omega) hend
    · rw [frameOf_repeat ((inRepeatFrame_stop hst (by decide)).2 hcur), hst]
      exact repeatFrame_at_stopOff (by omega) hend
  | rptOn hst hcnt hacc =>
    rw [frameOf_of_not_stop hst (by decide), hst, hclock (by rw [hst]; decide), hacc]
    exact repeatFrame_at_rptOn (by rw [BitVec.toNat_zero]; omega)
  | rptOff hst hcnt hacc =>
    rw [frameOf_of_not_stop hst (by decide), hst, hclock (by rw [hst]; decide)]
    exact repeatFrame_at_rptOff (by omega) (by omega)

end Sys2Proof.Proofs
end

section
/-! PROOF. The waveform of a run (41_subcarrier_output.md R130; 42_protocol_encoder.md R160): a run stays in its frame
to the frame's end, its ticks find the frame's codes, and the frames' phases are the marks and spaces on the air. -/

namespace Sys2Proof.Proofs

open Sys2Proof.Machine Sys2Proof.Safety Sys2Proof.Laws

/-! ### A cycle stays in the frame while the frame's clock runs on -/

/-- The stop bit belongs to the frame of the space before it: a repeat frame's, where `cur` has not moved on. -/
theorem cur_eq_start_before_stop {s : State} (h : phaseData s)
    (hrow : decodeState s.st ∈ [.bit0Off, .bit1Off, .rptOff]) : s.cur = 31#6 ↔ s.st ∈ repeatCodes := by
  cases phaseView_of_phaseData h with
  | bit0Off hst _ hcur | bit1Off hst _ hcur =>
    obtain ⟨-, hle⟩ := hcur
    refine iff_of_false (fun hstart => ?_) (by rw [hst]; decide)
    rw [hstart] at hle
    exact absurd hle (by decide)
  | rptOff hst _ _ hcur => exact iff_of_true hcur (by simp [hst])
  | _ hst => rw [hst] at hrow; exact absurd hrow (by decide)

/-- StopOff's exit takes the frame's clock back to 0. -/
theorem frameClock_after_stopOff {s : State} (h : phaseData s) (hst : s.st = codeStopOff) :
    0 < frameClock s ∧ frameClock (repeatEntry s) = 0 ∧ frameClock (idleEntry s) = 0 := by
  have hbudget := budget_le_of_phaseData h hst
  refine ⟨by rw [frameClock_stopOff hst]; omega, ?_, rfl⟩
  cases phaseView_of_phaseData h with
  | stopOff _ _ hacc =>
    have hzero : (repeatEntry s).acc.toNat = 0 := congrArg BitVec.toNat hacc
    rw [frameClock_of_ne_stopOff (by exact (by decide : codeRptOn ≠ codeStopOff)), hzero]
    rfl
  | _ hst' => exact absurd (hst'.symm.trans hst) (by decide)

/-- The marks before the stop bit lead to a space of the frame they belong to. -/
theorem toSpaceRows_frame : ∀ code c : BitVec 4, (decodeState code, c) ∈ toSpaceRows →
    code ∉ stopCodes ∧ c ∉ stopCodes ∧ (c ∈ repeatCodes ↔ code ∈ repeatCodes) := by
  decide

/-- The rows that lead to the stop bit are no stop states. -/
theorem rows_before_stop : ∀ code : BitVec 4,
    decodeState code ∈ [.bit0Off, .bit1Off, .rptOff] → code ∉ stopCodes := by
  decide

/-- The rows that lead to a data bit's mark are a data frame's own. -/
theorem rows_before_bit : ∀ code : BitVec 4,
    decodeState code ∈ [.ldrOff, .bit0Off, .bit1Off] → code ∉ stopCodes ∧ code ∉ repeatCodes := by
  decide

/-- A cycle stays in its frame, repeat or data, while the frame's clock does not go back. -/
theorem inRepeatFrame_of_exec {s t : State} (h : phaseData s) (hidle : s.st ≠ codeIdle)
    (hexec : exec (decodeState s.st) s = .next t) (hclock : frameClock s ≤ frameClock t) :
    inRepeatFrame t ↔ inRepeatFrame s := by
  have hspace := toSpaceRows_frame s.st
  have hmark := rows_before_stop s.st
  have hbit := rows_before_bit s.st
  have hcode := eq_code_of_decodeState s.st
  have hcur := cur_eq_start_before_stop h
  have hcycle := exec_state_cases (decodeState_format s.st) hexec
  generalize decodeState s.st = i at hcycle hspace hmark hbit hcode hcur
  obtain ⟨hstart, hclose, hend⟩ := hcode
  cases hcycle with
  | fault | stay | idleStay => exact Iff.rfl
  | idleExit => exact absurd (hstart rfl) hidle
  | space _ c _ hi =>
    obtain ⟨hs, hc, hsame⟩ := hspace c hi
    rw [inRepeatFrame_of_not_stop rfl hc, inRepeatFrame_of_not_stop rfl hs, hsame]
  | mark _ _ hi =>
    rw [inRepeatFrame_stop (c := codeStopOn) rfl (by decide), inRepeatFrame_of_not_stop rfl (hmark hi), hcur hi]
  | bit _ _ hi =>
    obtain ⟨hs, hdata⟩ := hbit hi
    rw [inRepeatFrame_of_not_stop (c := codeBitOn) rfl (by decide), inRepeatFrame_of_not_stop rfl hs]
    exact iff_of_false (by decide) hdata
  | close =>
    rw [inRepeatFrame_stop (c := codeStopOff) rfl (by decide), inRepeatFrame_stop (hclose rfl) (by decide)]
  | again =>
    obtain ⟨hpos, hzero, -⟩ := frameClock_after_stopOff h (hend rfl)
    exact absurd (hclock.trans_eq hzero) (by omega)
  | done =>
    obtain ⟨hpos, -, hzero⟩ := frameClock_after_stopOff h (hend rfl)
    exact absurd (hclock.trans_eq hzero) (by omega)

theorem frameOf_of_step {s t : State} (h : FrameInv s) (hrst : s.rst = false) (hidle : s.st ≠ codeIdle)
    (hstep : step s = .next t) (hclock : frameClock s ≤ frameClock t) : frameOf t = frameOf s := by
  obtain ⟨-, -, -, -, hdata, -⟩ := id h
  obtain ⟨u, hexec⟩ := exec_state_next (decodeState_format s.st) s
  rw [step_of_exec h hrst hexec] at hstep
  cases hstep
  exact if_congr (inRepeatFrame_of_exec (t := u) hdata hidle hexec hclock) rfl
    (congrArg dataFrame (exec_dc (t := u) hexec))

/-! ### The codes of a run -/

theorem tickTrace_cons {v : Bool × Bool} {rest : List (Bool × Bool)} {s t : State}
    (h : step (present v.1 v.2 s) = .next t) :
    tickTrace (v :: rest) s = (if v.1 then [s.st] else []) ++ tickTrace rest t := by
  rw [tickTrace, h]
  cases v.1 <;> rfl

/-- Inputs without a tick leave no trace. -/
theorem tickTrace_of_no_tick {inputs : List (Bool × Bool)} (h : tickCount inputs = 0) (s : State) :
    tickTrace inputs s = [] := by
  induction inputs generalizing s with
  | nil => rfl
  | cons v rest ih =>
    rw [tickCount_cons] at h
    have hno : v.1 = false := by cases hv : v.1 <;> simp [hv] at h ⊢
    cases hstep : step (present v.1 v.2 s) with
    | next t => rw [tickTrace_cons hstep, hno, ih (by omega)]; rfl
    | fault | refused => rw [tickTrace, hstep]

/-- The codes still to come in the frame on the air. -/
def codesToCome (s : State) : List (BitVec 4) := (codesAtTicks (frameOf s)).drop (frameClock s)

theorem codesToCome_eq_cons {s : State} (h : phaseData s) (hidle : s.st ≠ codeIdle) :
    codesToCome s = s.st :: (codesAtTicks (frameOf s)).drop (frameClock s + 1) := by
  rw [codesToCome, List.drop_eq_getElem?_toList_append, codeAt_frameClock h hidle]
  rfl

/-- A step of a transmission before its frame's 4096th tick: a tick takes the first of the codes to come. -/
theorem codesToCome_of_step {s : State} (h : FrameInv s) (hrst : s.rst = false) (hidle : s.st ≠ codeIdle)
    (hle : frameClock s + (if s.tick then 1 else 0) ≤ 4095) :
    ∃ t, step s = .next t ∧ FrameInv t ∧ t.st ≠ codeIdle ∧
      frameClock t = frameClock s + (if s.tick then 1 else 0) ∧
      codesToCome s = (if s.tick then [s.st] else []) ++ codesToCome t := by
  obtain ⟨-, -, -, -, hdata, -⟩ := id h
  obtain ⟨t, hstep, hinv, hidle', hclock⟩ := step_within_frame h hrst hidle hle
  refine ⟨t, hstep, hinv, hidle', hclock, ?_⟩
  have hframe := frameOf_of_step h hrst hidle hstep (by omega)
  cases htick : s.tick with
  | false => rw [codesToCome, codesToCome, hframe, hclock, htick]; rfl
  | true => rw [codesToCome_eq_cons hdata hidle, codesToCome, hframe, hclock, htick]; rfl

/-- The ticks of a run to the frame's end at most find the codes to come, in their order. -/
theorem tickTrace_within_frame {s : State} (inputs : List (Bool × Bool)) (h : FrameInv s) (hidle : s.st ≠ codeIdle)
    (hle : frameClock s + tickCount inputs ≤ 4096) :
    tickTrace inputs s = (codesToCome s).take (tickCount inputs) := by
  induction inputs generalizing s with
  | nil => rfl
  | cons v rest ih =>
    obtain ⟨-, -, -, -, hdata, -⟩ := id h
    have hclock := frameClock_lt hdata
    rw [tickCount_cons] at hle ⊢
    by_cases hin : frameClock s + (if v.1 then 1 else 0) ≤ 4095
    · obtain ⟨t, hstep, hinv, hidle', hclock', hcodes⟩ :=
        codesToCome_of_step (s := present v.1 v.2 s) h rfl hidle hin
      have hcodes' : codesToCome s = (if v.1 then [s.st] else []) ++ codesToCome t := hcodes
      have hnext : frameClock t = frameClock s + if v.1 then 1 else 0 := hclock'
      rw [tickTrace_cons hstep, hcodes', ih hinv hidle' (by omega)]
      cases v.1 <;> simp [Nat.add_comm 1]
    · have htick : v.1 = true := by_contra fun hno => hin (by rw [if_neg hno]; omega)
      obtain ⟨t, hexec⟩ := exec_state_next (decodeState_format s.st) (present v.1 v.2 s)
      have hnone : tickCount rest = 0 := by rw [htick, if_pos rfl] at hin hle; omega
      rw [tickTrace_cons (step_of_exec h rfl hexec), tickTrace_of_no_tick hnone, hnone, htick,
        codesToCome_eq_cons hdata hidle]
      rfl

/-- A frame's clock starts at 0. -/
theorem frameClock_of_start {s : State} (h : phaseData s) (hst : s.st = codeLdrOn ∨ s.st = codeRptOn)
    (hzero : s.cnt = 0#16) : frameClock s = 0 := by
  have hstop : s.st ≠ codeStopOff := by rcases hst with hst | hst <;> rw [hst] <;> decide
  rw [frameClock_of_ne_stopOff hstop, hzero]
  cases phaseView_of_phaseData h with
  | ldrOn _ _ hacc | rptOn _ _ hacc => rw [hacc]; rfl
  | _ hst' => rw [hst'] at hst; exact absurd hst (by decide)

theorem phaseTicks_frameOf (s : State) : phaseTicks (frameOf s) = 4096 := by
  unfold frameOf
  split
  · exact phaseTicks_repeatFrame
  · exact phaseTicks_dataFrame s.dc

/-- A run of 4096 ticks from a frame's start finds all of the frame's codes. -/
theorem tickTrace_of_frame {s : State} {inputs : List (Bool × Bool)} (h : FrameInv s)
    (hst : s.st = codeLdrOn ∨ s.st = codeRptOn) (hzero : s.cnt = 0#16) (hticks : tickCount inputs = 4096) :
    tickTrace inputs s = codesAtTicks (frameOf s) := by
  have hidle : s.st ≠ codeIdle := by rcases hst with hst | hst <;> rw [hst] <;> decide
  obtain ⟨-, -, -, -, hdata, -⟩ := id h
  have hstart := frameClock_of_start hdata hst hzero
  rw [tickTrace_within_frame inputs h hidle (by omega), codesToCome, hstart, hticks, List.drop_zero,
    List.take_of_length_le (by rw [length_codesAtTicks, phaseTicks_frameOf])]

/-! ### The waveform -/

theorem waveform_append (xs ys : List Phase) : waveform (xs ++ ys) = waveform xs ++ waveform ys :=
  List.map_append

/-- A data bit on the air: a mark of 22 ticks and the bit's space (30_encoding.md R82). -/
theorem waveform_bitPhases (b : Bool) : waveform (bitPhases b) = [.mark 22, .space (if b then 64 else 21)] := by
  cases b <;> rfl

theorem waveform_dataFrame (dc : BitVec 32) : waveform (dataFrame dc) =
    [.mark 341, .space 171]
      ++ (List.range 32).flatMap (fun k => [.mark 22, .space (if dc.getLsbD (31 - k) then 64 else 21)])
      ++ [.mark 22, .space (4095 - dataTotal dc + 1)] := by
  have hbits : waveform ((List.range 32).flatMap fun k => bitPhases (sentBit dc k)) =
      (List.range 32).flatMap fun k => [.mark 22, .space (if dc.getLsbD (31 - k) then 64 else 21)] := by
    rw [waveform, List.map_flatMap]
    exact congrArg (List.flatMap · _) (funext fun k => waveform_bitPhases (sentBit dc k))
  have hleader : waveform [(codeLdrOn, 341), (codeLdrOff, 171)] = [.mark 341, .space 171] := rfl
  have hstop (n : Nat) : waveform [(codeStopOn, 22), (codeStopOff, n)] = [.mark 22, .space n] := by
    simp [waveform, symbolOf, gateOf, codeStopOn, codeStopOff]
  rw [dataFrame, waveform_append, waveform_append, hleader, hbits, hstop, framePeriods]

/-! ### Idle -/

/-- A cycle of Idle with the button released reads it and stays (42_protocol_encoder.md R144). -/
theorem exec_idle_released {s : State} (hc : countAfter s ≤ 0xFFFF) (hb : s.btnN = true) :
    exec .idle s = .next (driveOutputs { stayed s with effects := [.btnRead false] }) := by
  rw [exec, execIdle, blockCycle_ok (t := stayWith (cntNext s) (readButton (beginCycle s))) hc (by simp [btn, hb])]
  simp [stayWith, stayed, readButton, emit, beginCycle, setWidth_cntNext, btn, hb]

/-- Settles O45: a run from a frame's start finds the codes of the frame it belongs to; the symbols are the phases', and
Idle's output is the gate's. -/
theorem dataFrameIsTheNecWaveform : Obligations.DataFrameIsTheNecWaveform := by
  refine ⟨fun s inputs h hzero hticks => ⟨fun hst => ?_, fun hst => ?_⟩, waveform_dataFrame, by decide,
    fun s h hst => ?_⟩
  · rw [tickTrace_of_frame h (.inl hst) hzero hticks, frameOf_of_not_stop hst (by decide)]
    rfl
  · rw [tickTrace_of_frame h (.inr hst) hzero hticks, frameOf_of_not_stop hst (by decide)]
    rfl
  · obtain ⟨-, -, ⟨hduty, -⟩, -, -, -⟩ := id h
    obtain ⟨-, -, -, hidle⟩ := countNeverExceedsThreeThousandSixHundredFortySeven s h
    obtain ⟨-, hcount⟩ := hidle hst
    have hoff : dutyFor (gate s) = 0#8 := by rw [gate, hst]; rfl
    exact ⟨hduty.trans hoff, fun hb => ⟨_, exec_idle_released (by omega) hb, hst, hoff⟩⟩

end Sys2Proof.Proofs
end

section
/-! PROOF. The entry of a phase (42_protocol_encoder.md R158), and repeat frames in a row (R161): the inputs of a run
are cut at each frame's 4096th tick, and a frame that ends with the button pressed is followed by another. -/

namespace Sys2Proof.Proofs

open Sys2Proof.Machine Sys2Proof.Safety Sys2Proof.Laws

/-! ### The entry of a phase -/

/-- A step of a phase keeps the invariant, and where it leaves the phase it leaves `cnt` = 0. -/
theorem step_of_phase {s t : State} (h : FrameInv s) (hrst : s.rst = false) (hst : s.st ≠ codeIdle)
    (hstep : step s = .next t) : FrameInv t ∧ (t.st ≠ s.st → t.cnt = 0#16) := by
  obtain ⟨-, -, -, -, hdata, -⟩ := id h
  obtain ⟨th, ht⟩ := exists_threshold hdata hst
  by_cases hlt : th.toNat < countAfter s
  · obtain ⟨u, -, hstep', hexit, hinv⟩ := step_phase_exit h hrst ht hlt
    rw [hstep'] at hstep
    cases hstep
    exact ⟨hinv, fun _ => hexit.count⟩
  · obtain ⟨hstep', hinv, -⟩ := step_phase_stay h hrst ht (by omega)
    rw [hstep'] at hstep
    cases hstep
    exact ⟨hinv, fun hne => absurd rfl hne⟩

/-- A phase is entered with `cnt` = 0, from Idle and from another phase (42_protocol_encoder.md R144 to R153), and its
entry keeps the invariant. -/
theorem entry_of_step {s t : State} (h : FrameInv s) (hstep : step s = .next t) (hne : t.st ≠ s.st)
    (hidle : t.st ≠ codeIdle) : t.cnt = 0#16 ∧ FrameInv t := by
  have hrst : s.rst = false := by
    by_contra hr
    rw [step_reset (Bool.eq_true_of_not_eq_false hr)] at hstep
    cases hstep
    exact hidle rfl
  by_cases hst : s.st = codeIdle
  · obtain ⟨-, -, -, hcount⟩ := countNeverExceedsThreeThousandSixHundredFortySeven s h
    obtain ⟨-, hcount⟩ := hcount hst
    have hrow (u : State) (hexec : exec .idle s = .next u) : step s = .next (advance s u) :=
      step_of_exec h hrst (by rw [hst]; exact hexec)
    cases hb : s.btnN with
    | false =>
      have hexec := exec_idle_press (s := s) (by omega) hb
      rw [hrow _ hexec] at hstep
      cases hstep
      exact ⟨rfl, frameInv_leaderEntry h hexec⟩
    | true =>
      rw [hrow _ (exec_idle_released (by omega) hb)] at hstep
      cases hstep
      exact absurd rfl hne
  · obtain ⟨hinv, hcnt⟩ := step_of_phase h hrst hst hstep
    exact ⟨hcnt hne, hinv⟩

/-- No phase's threshold is 0: `budget` is at least 809 in StopOff (40_tick_source.md R112). -/
theorem one_le_threshold {s : State} {th : BitVec 16} (h : phaseData s) (ht : threshold s.st s.budget = some th) :
    1 ≤ th.toNat := by
  obtain ⟨-, hmax⟩ := dataTotal_bounds s.dc
  have hrepeat : repeatTotal = 449 := rfl
  cases phaseView_of_phaseData h with
  | idle hst => rw [hst] at ht; cases ht
  | stopOff hst _ _ hframe => rw [hst] at ht; cases ht; omega
  | _ hst => rw [hst] at ht; cases ht; decide

/-- Settles O48: one tick cannot take `cnt` from 0 past a threshold, which is 1 at least. -/
theorem noPhaseExitsInTheCycleAfterItsEntry : Obligations.NoPhaseExitsInTheCycleAfterItsEntry := by
  intro s t u tick btnN h hstep hne hidle
  obtain ⟨hzero, hinv⟩ := entry_of_step h hstep hne hidle
  refine ⟨hzero, fun hnext => ?_⟩
  obtain ⟨-, -, -, -, hdata, -⟩ := id hinv
  obtain ⟨th, ht⟩ := exists_threshold hdata hidle
  have hone := one_le_threshold hdata ht
  have hcount : countAfter (present tick btnN t) ≤ t.cnt.toNat + 1 := countAfter_le _
  have hcnt : t.cnt.toNat = 0 := by rw [hzero]; rfl
  obtain ⟨hstay, -⟩ := step_phase_stay (s := present tick btnN t) hinv rfl ht (by omega)
  rw [hstay] at hnext
  cases hnext
  rfl

/-! ### Inputs cut at a tick -/

theorem tickCount_append (xs ys : List (Bool × Bool)) : tickCount (xs ++ ys) = tickCount xs + tickCount ys :=
  List.countP_append

/-- Any tick of the inputs, the one with `n` ticks before it, cuts them in two. -/
theorem exists_cut_at_tick {inputs : List (Bool × Bool)} {n : Nat} (h : n < tickCount inputs) :
    ∃ before btnN behind, inputs = before ++ (true, btnN) :: behind ∧ tickCount before = n := by
  induction inputs generalizing n with
  | nil => exact absurd h (Nat.not_lt_zero n)
  | cons v rest ih =>
    obtain ⟨tick, btnN⟩ := v
    rw [tickCount_cons] at h
    cases tick with
    | false =>
      obtain ⟨before, b, behind, rfl, hcount⟩ := ih (n := n) (by simpa using h)
      exact ⟨(false, btnN) :: before, b, behind, rfl, by rw [tickCount_cons]; simpa using hcount⟩
    | true =>
      cases n with
      | zero => exact ⟨[], btnN, rest, rfl, rfl⟩
      | succ n =>
        rw [if_pos rfl] at h
        obtain ⟨before, b, behind, rfl, hcount⟩ := ih (n := n) (by omega)
        exact ⟨(true, btnN) :: before, b, behind, rfl, by rw [tickCount_cons, if_pos rfl, hcount, Nat.add_comm]⟩

/-- The ticks behind a cut are numbered on from those before it. -/
theorem buttonAtTick_append {n : Nat} (hn : 1 ≤ n) (xs ys : List (Bool × Bool)) :
    buttonAtTick (tickCount xs + n) (xs ++ ys) = buttonAtTick n ys := by
  have hlen : (xs.filter fun v => v.1).length = tickCount xs := List.countP_eq_length_filter.symm
  rw [buttonAtTick, buttonAtTick, List.filter_append, List.getElem?_append_right (by omega), hlen]
  congr 2
  omega

/-- The button in the tick cycle at a cut. -/
theorem buttonAtTick_cut (before behind : List (Bool × Bool)) (btnN : Bool) :
    buttonAtTick (tickCount before + 1) (before ++ (true, btnN) :: behind) = some btnN :=
  buttonAtTick_append le_rfl before _

/-- A run that is not over has taken its first step. -/
theorem runInputs_cons_inv {v : Bool × Bool} {rest : List (Bool × Bool)} {s t : State}
    (h : runInputs (v :: rest) s = some t) : ∃ u, step (present v.1 v.2 s) = .next u ∧ runInputs rest u = some t := by
  cases hstep : step (present v.1 v.2 s) with
  | next u => exact ⟨u, rfl, (runInputs_cons hstep).symm.trans h⟩
  | fault f => simp [runInputs, hstep] at h
  | refused r => simp [runInputs, hstep] at h

/-- A run's trace is that of its beginning and then that of its rest. -/
theorem tickTrace_append {xs : List (Bool × Bool)} {s t : State} (h : runInputs xs s = some t)
    (ys : List (Bool × Bool)) : tickTrace (xs ++ ys) s = tickTrace xs s ++ tickTrace ys t := by
  induction xs generalizing s with
  | nil => cases h; rfl
  | cons v rest ih =>
    obtain ⟨u, hstep, hrun⟩ := runInputs_cons_inv h
    rw [List.cons_append, tickTrace_cons hstep, tickTrace_cons hstep, ih hrun, List.append_assoc]

/-! ### One frame after the other -/

/-- A frame whose 4096th tick finds the button pressed is followed by a repeat frame, entered as the invariant says. -/
theorem repeat_follows_pressed {s : State} {inputs : List (Bool × Bool)} (h : FrameInv s)
    (hst : s.st = codeLdrOn ∨ s.st = codeRptOn) (hzero : s.cnt = 0#16) (hticks : tickCount inputs = 4095) :
    ∃ t, runInputs (inputs ++ [(true, false)]) s = some t ∧ FrameInv t ∧ t.st = codeRptOn ∧ t.cnt = 0#16 := by
  obtain ⟨-, -, hframe⟩ := framesLastFourThousandNinetySixTicks
  obtain ⟨t, u, hrun, hend, hlast, hnext⟩ := hframe s inputs false h hst hzero hticks
  obtain ⟨-, -, -, -, hdata, -⟩ := id h
  have hstart := frameClock_of_start hdata hst hzero
  have hidle : s.st ≠ codeIdle := by rcases hst with hst | hst <;> rw [hst] <;> decide
  obtain ⟨t', hrun', hinv, -⟩ := run_within_frame inputs h hidle (by omega)
  obtain rfl : t = t' := Option.some.inj (hrun.symm.trans hrun')
  have hu : u.st = codeRptOn := hnext
  obtain ⟨u', hstep, hdone⟩ := runInputs_cons_inv ((runInputs_append hrun).symm.trans hlast)
  obtain rfl : u' = u := Option.some.inj hdone
  obtain ⟨hcnt, hinv'⟩ := entry_of_step (s := present true false t) hinv hstep
    (by rw [hu, show (present true false t).st = codeStopOff from hend]; decide) (by rw [hu]; decide)
  exact ⟨u', hlast, hinv', hu, hcnt⟩

/-- Settles O46: the first 4096 ticks are a whole repeat frame, and while the button is pressed at its end the rest of
the run starts with another one. -/
theorem repeatFrameIsTheRepeatCode : Obligations.RepeatFrameIsTheRepeatCode := by
  intro s inputs k h hst hzero hticks hpressed
  induction k generalizing s inputs with
  | zero => exact tickTrace_of_no_tick hticks s
  | succ k ih =>
    obtain ⟨before, btnN, behind, rfl, hbefore⟩ := exists_cut_at_tick (n := 4095) (inputs := inputs) (by omega)
    have hbtn : 0 < k → btnN = false := fun hk => by
      have hasserted := hpressed 1 le_rfl (by omega)
      rw [show 4096 * 1 = tickCount before + 1 by rw [hbefore], buttonAtTick_cut] at hasserted
      exact Option.some.inj hasserted
    rw [List.append_cons] at hticks hpressed ⊢
    have hframe : tickCount (before ++ [(true, btnN)]) = 4096 := by rw [tickCount_append, hbefore]; rfl
    rw [tickCount_append, hframe] at hticks
    have hfirst : tickTrace (before ++ [(true, btnN)]) s = codesAtTicks repeatFrame := by
      rw [tickTrace_of_frame h (.inr hst) hzero hframe, frameOf_of_not_stop hst (by decide)]
      rfl
    have hrest : ∃ t, runInputs (before ++ [(true, btnN)]) s = some t ∧
        tickTrace behind t = (List.replicate k (codesAtTicks repeatFrame)).flatten := by
      rcases Nat.eq_zero_or_pos k with rfl | hk
      · obtain ⟨-, -, hends⟩ := framesLastFourThousandNinetySixTicks
        obtain ⟨-, u, -, -, hrun, -⟩ := hends s before btnN h (.inr hst) hzero hbefore
        exact ⟨u, hrun, tickTrace_of_no_tick (by omega) u⟩
      · obtain rfl := hbtn hk
        obtain ⟨t, hrun, hinv, hst', hzero'⟩ := repeat_follows_pressed h (.inr hst) hzero hbefore
        refine ⟨t, hrun, ih t behind hinv hst' hzero' (by omega) fun j h1 hlt => ?_⟩
        rw [← buttonAtTick_append (by omega) (before ++ [(true, false)]) behind, hframe, Nat.add_comm 4096]
        exact hpressed (j + 1) (by omega) (by omega)
    obtain ⟨t, hrun, hrest⟩ := hrest
    rw [tickTrace_append hrun, hfirst, hrest, List.replicate_succ, List.flatten_cons]
    rfl

end Sys2Proof.Proofs
end

section
/-! PROOF. Where the button is read (42_protocol_encoder.md R144, R151, R155, R163): which cycles emit BTN_READ, that
the other rules run alike at either level of the pin, and the ticks at which a transmission samples it. -/

namespace Sys2Proof.Proofs

open Sys2Proof.Machine Sys2Proof.Safety Sys2Proof.Laws

/-! ### The cycles that emit BTN_READ -/

/-- A cycle that raised no fault emits BTN_READ, with the pin's level, in Idle and in StopOff's exit cycle, and in no
other. -/
theorem btnRead_mem_iff {i : Instr} {s t : State} (h : StateCycle s i t) (hf : t.faults = []) (r : Bool) :
    Effect.btnRead r ∈ t.effects ↔
      r = !s.btnN ∧ (i = .idle ∨ (i = .stopOff ∧ s.budget.toNat < countAfter s)) := by
  cases h with
  | fault _ f => exact absurd hf (recordFault_ne_nil _ f)
  | idleStay hb | idleExit hb => simp [hb]
  | stay _ hi hb =>
    refine iff_of_false (by simp [stayed]) ?_
    rintro ⟨-, rfl | ⟨rfl, hlt⟩⟩
    · exact absurd hi (by decide)
    · exact absurd (hb rfl) (by omega)
  | space _ c _ hi =>
    refine iff_of_false (by simp) ?_
    rintro ⟨-, rfl | ⟨rfl, -⟩⟩ <;> simp [toSpaceRows] at hi
  | mark _ _ hi | bit _ _ hi =>
    refine iff_of_false (by simp) ?_
    rintro ⟨-, rfl | ⟨rfl, -⟩⟩ <;> exact absurd hi (by decide)
  | close => simp
  | again hc hb | done hc hb => simp [hc, hb]

/-- The codes of the two rows that read the button. -/
theorem decodeState_reads_button : ∀ code : BitVec 4,
    (decodeState code = .idle ↔ code = codeIdle) ∧ (decodeState code = .stopOff ↔ code = codeStopOff) := by
  decide

/-! ### Rules that do not see the button -/

/-- The state with the pin at another level. -/
def withButton (b : Bool) (s : State) : State := { s with btnN := b }

/-- A rule that does the same at either level of the pin. -/
def IgnoresButton (rule : BitVec 17 → State → Except Fault State) : Prop :=
  ∀ b c s, rule c (withButton b s) = (rule c s).map (withButton b)

theorem ignoresButton_accumulate : IgnoresButton accumulate := by
  intro b c s
  by_cases h : s.acc.toNat + c.toNat ≤ 0xFFFF
  · rw [accumulate_of_le h, accumulate_of_le (s := withButton b s) h]
    rfl
  · rw [accumulate_of_lt (s := s) (by omega), accumulate_of_lt (s := withButton b s) (Nat.lt_of_not_le h)]
    rfl

theorem ignoresButton_closeWith : IgnoresButton closeWith := by
  intro b c s
  by_cases h : s.acc.toNat + c.toNat ≤ 4095
  · rw [closeWith_of_le h, closeWith_of_le (s := withButton b s) h]
    rfl
  · rw [closeWith_of_lt (s := s) (by omega), closeWith_of_lt (s := withButton b s) (Nat.lt_of_not_le h)]
    rfl

/-- ENTER-BIT does not see the button. -/
theorem startBit_withButton (b : Bool) (s : State) : startBit (withButton b s) = (startBit s).map (withButton b) := by
  by_cases h : 0 ≤ s.cur.toInt
  · rw [startBit_of_nonneg h, startBit_of_nonneg (s := withButton b s) h]
    rfl
  · rw [startBit_of_neg (s := s) (by omega), startBit_of_neg (s := withButton b s) (Int.lt_of_not_ge h)]
    rfl

section
variable {rule : BitVec 17 → State → Except Fault State} (h : IgnoresButton rule)
include h

theorem ignoresButton_map {f : State → State} (hf : ∀ b s, f (withButton b s) = withButton b (f s)) :
    IgnoresButton fun c s => (rule c s).map f := by
  intro b c s
  simp only [h b c s]
  cases rule c s with
  | ok t => exact congrArg Except.ok (hf b t)
  | error f => rfl

theorem ignoresButton_bind {g : State → Except Fault State}
    (hg : ∀ b s, g (withButton b s) = (g s).map (withButton b)) : IgnoresButton fun c s => (rule c s).bind g := by
  intro b c s
  simp only [h b c s]
  cases rule c s with
  | ok t => exact hg b t
  | error f => rfl

theorem ignoresButton_exitOrStay (code : BitVec 4) : IgnoresButton (exitOrStay code rule) := by
  intro b c s
  have hbudget : (withButton b s).budget = s.budget := rfl
  unfold exitOrStay
  rw [hbudget, h b c s]
  split
  · split <;> rfl
  · rfl

/-- A cycle whose rule ignores the button does so too, in a cycle that raises a fault as well. -/
theorem blockCycle_withButton {s t : State} (hs : blockCycle rule s = .next t) (b : Bool) :
    blockCycle rule (withButton b s) = .next (withButton b t) := by
  by_cases hc : countAfter s ≤ 0xFFFF
  · have hrule : rule (cntNext (withButton b s)) (beginCycle (withButton b s)) =
        (rule (cntNext s) (beginCycle s)).map (withButton b) := h b (cntNext s) (beginCycle s)
    cases hr : rule (cntNext s) (beginCycle s) with
    | ok u =>
      rw [blockCycle_ok hc hr] at hs
      cases hs
      exact blockCycle_ok (rule := rule) (s := withButton b s) hc (by rw [hrule, hr]; rfl)
    | error f =>
      rw [blockCycle_error hc hr] at hs
      cases hs
      exact blockCycle_error (rule := rule) (s := withButton b s) hc (by rw [hrule, hr]; rfl)
  · rw [blockCycle_overflow rule (by omega)] at hs
    cases hs
    exact blockCycle_overflow rule (s := withButton b s) (Nat.lt_of_not_le hc)

end

theorem ignoresButton_toSpace {next : State → BitVec 4} (hnext : ∀ b s, next (withButton b s) = next s) :
    IgnoresButton (toSpace next) :=
  ignoresButton_map ignoresButton_accumulate fun b s => by rw [hnext]; rfl

theorem ignoresButton_toMark (next : BitVec 4) : IgnoresButton (toMark next) :=
  ignoresButton_map ignoresButton_accumulate fun _ _ => rfl

theorem ignoresButton_closeExit : IgnoresButton closeExit :=
  ignoresButton_map ignoresButton_closeWith fun _ _ => rfl

theorem ignoresButton_accumulate_bind_startBit : IgnoresButton fun c s => (accumulate c s).bind startBit :=
  ignoresButton_bind ignoresButton_accumulate startBit_withButton

/-- After a data bit's space, past -1 too: `cur` alone chooses between the stop bit and the next bit. -/
theorem afterBit_eq (c : BitVec 17) (s : State) :
    afterBit c s = if s.cur = cursorDone then toMark codeStopOn c s else (accumulate c s).bind startBit := by
  unfold afterBit
  split
  · rfl
  · cases accumulate c s <;> rfl

theorem ignoresButton_afterBit : IgnoresButton afterBit := by
  intro b c s
  have hcur : (withButton b s).cur = s.cur := rfl
  rw [afterBit_eq, afterBit_eq, hcur]
  split
  · exact ignoresButton_toMark codeStopOn b c s
  · exact ignoresButton_accumulate_bind_startBit b c s

/-- Every row but IDLE and STOP_OFF is a cycle of a rule that ignores the button. -/
theorem exec_state_ignoresButton {i : Instr} (hi : i.format = .state) (hidle : i ≠ .idle) (hstop : i ≠ .stopOff) :
    ∃ rule, IgnoresButton rule ∧ ∀ s, exec i s = blockCycle rule s := by
  cases i with
  | idle => exact absurd rfl hidle
  | stopOff => exact absurd rfl hstop
  | ldrOn => exact ⟨_, ignoresButton_exitOrStay (ignoresButton_toSpace fun _ _ => rfl) codeLdrOn, fun _ => rfl⟩
  | ldrOff => exact ⟨_, ignoresButton_exitOrStay ignoresButton_accumulate_bind_startBit codeLdrOff, fun _ => rfl⟩
  | bitOn => exact ⟨_, ignoresButton_exitOrStay (ignoresButton_toSpace fun _ _ => rfl) codeBitOn, fun _ => rfl⟩
  | bit0Off => exact ⟨_, ignoresButton_exitOrStay ignoresButton_afterBit codeBit0Off, fun _ => rfl⟩
  | bit1Off => exact ⟨_, ignoresButton_exitOrStay ignoresButton_afterBit codeBit1Off, fun _ => rfl⟩
  | stopOn => exact ⟨_, ignoresButton_exitOrStay ignoresButton_closeExit codeStopOn, fun _ => rfl⟩
  | rptOn => exact ⟨_, ignoresButton_exitOrStay (ignoresButton_toSpace fun _ _ => rfl) codeRptOn, fun _ => rfl⟩
  | rptOff => exact ⟨_, ignoresButton_exitOrStay (ignoresButton_toMark codeStopOn) codeRptOff, fun _ => rfl⟩
  | reserved1001 | reserved1011 | reserved11xx => exact ⟨illegal, fun _ _ _ => rfl, fun _ => rfl⟩
  | _ => cases hi

/-- Within the budget STOP_OFF stays, whatever the ports were. -/
theorem exec_stopOff_stay {s : State} (h : countAfter s ≤ s.budget.toNat) :
    exec .stopOff s = .next (driveOutputs (stayed s)) := by
  have hlt := s.budget.isLt
  have hrule := exitOrStay_stay (onExit := fun _ t => .ok (leaveStopOff t)) (c := cntNext s) (s := beginCycle s)
    (threshold_stopOff _) (by rw [cntNext_toNat]; exact h)
  refine (blockCycle_ok (s := s) (by omega) hrule).trans ?_
  rw [stayWith, setWidth_cntNext]
  rfl

/-- Settles O49: the cycles that emit BTN_READ, by the kind of cycle; the rules of the other rows, and STAY of STOP_OFF,
do not see the button. -/
theorem buttonIsIgnoredElsewhere : Obligations.ButtonIsIgnoredElsewhere := by
  intro s t h
  obtain ⟨hidle, hstop⟩ := decodeState_reads_button s.st
  refine ⟨fun _ hf r => ?_, fun b hst hstay => ?_⟩
  · rw [btnRead_mem_iff (exec_state_cases (decodeState_format s.st) h) hf, hidle, hstop]
  · by_cases hs : s.st = codeStopOff
    · rw [hstop.2 hs] at h ⊢
      rw [exec_stopOff_stay (hstay hs)] at h
      cases h
      exact exec_stopOff_stay (s := withButton b s) (hstay hs)
    · obtain ⟨rule, hrule, hrow⟩ := exec_state_ignoresButton (decodeState_format s.st) (mt hidle.1 hst) (mt hstop.1 hs)
      rw [hrow] at h ⊢
      exact blockCycle_withButton hrule h b

/-! ### The ticks at which a transmission samples the button -/

/-- StopOff's last cycle is the one that has all of the frame's ticks but its own behind it. -/
theorem frameClock_eq_iff_last {s : State} (h : FrameInv s) (htick : s.tick = true) (hidle : s.st ≠ codeIdle) :
    frameClock s = 4095 ↔ s.st = codeStopOff ∧ s.budget.toNat < countAfter s := by
  obtain ⟨-, -, -, -, hdata, -⟩ := id h
  constructor
  · intro hclock
    obtain ⟨hst, hcnt, -⟩ := stopOff_of_frameClock hdata hclock
    have hcount : countAfter s = s.cnt.toNat + 1 := by simp [countAfter, htick, armed_of_ne_idle h hidle]
    exact ⟨hst, by omega⟩
  · rintro ⟨hst, hlt⟩
    obtain ⟨hcnt, -⟩ := count_of_exceeds hdata (th := s.budget) (by rw [hst]; rfl) hlt
    exact frameClock_at_end h hst hcnt

/-- StopOff's last cycle ends the frame, and the button's sample, its first record, chooses what follows. -/
theorem exec_stopOff_last {s : State} (h : phaseData s) (hst : s.st = codeStopOff)
    (hlt : s.budget.toNat < countAfter s) :
    ∃ t, exec .stopOff s = .next t ∧ frameClock t = 0 ∧ t.st = (if s.btnN then codeIdle else codeRptOn) ∧
      t.effects.head? = some (.btnRead (!s.btnN)) := by
  obtain ⟨-, hagain, hdone⟩ := frameClock_after_stopOff h hst
  have hbudget := budget_le_of_phaseData h hst
  obtain ⟨-, hcount, -⟩ := count_of_exceeds h (th := s.budget) (by rw [hst]; rfl) hlt
  cases hb : s.btnN with
  | false => exact ⟨_, exec_stopOff_exit_pressed hlt (by omega) hb, hagain, rfl, rfl⟩
  | true => exact ⟨_, exec_stopOff_exit_released hlt (by omega) hb, hdone, rfl, rfl⟩

/-- In StopOff's last cycle the ticks are whole frames; in every other tick cycle of a transmission they are not. -/
theorem tickNo_mod_eq_zero_iff_last {s t : State} (h : FrameInv s) (hrst : s.rst = false) (hidle : s.st ≠ codeIdle)
    (hstep : step s = .next t) :
    s.tick = true ∧ t.tickNo % 4096 = 0 ↔ s.st = codeStopOff ∧ s.budget.toNat < countAfter s := by
  obtain ⟨-, -, -, -, hdata, -⟩ := id h
  constructor
  · rintro ⟨htick, hzero⟩
    rw [← frameClock_eq_iff_last h htick hidle]
    by_contra hclock
    have hbound := frameClock_lt hdata
    obtain ⟨u, hstep', ⟨-, -, -, -, -, hticks⟩, -, hnext⟩ :=
      step_within_frame h hrst hidle (by rw [htick, if_pos rfl]; omega)
    rw [hstep'] at hstep
    cases hstep
    rw [htick, if_pos rfl] at hnext
    omega
  · rintro ⟨hst, hlt⟩
    have ht : threshold s.st s.budget = some s.budget := by rw [hst]; rfl
    obtain ⟨-, -, htick⟩ := count_of_exceeds hdata ht hlt
    obtain ⟨u, hexec, hstep', -, -, -, -, -, -, hticks⟩ := step_phase_exit h hrst ht hlt
    obtain ⟨v, hlast, hclock, -⟩ := exec_stopOff_last hdata hst hlt
    rw [hst, decodeState_stopOff, hlast] at hexec
    cases hexec
    rw [hstep'] at hstep
    cases hstep
    exact ⟨htick, hticks.trans hclock⟩

/-- Settles O47: in a transmission only StopOff's last cycle reads the button, and it is the one that completes a
frame's ticks. -/
theorem buttonIsSampledEveryFourThousandNinetySixTicks :
    Obligations.ButtonIsSampledEveryFourThousandNinetySixTicks := by
  intro s t h hrst hidle hstep
  have hlast := tickNo_mod_eq_zero_iff_last h hrst hidle hstep
  obtain ⟨hf, -, -, -, hdata, -⟩ := id h
  obtain ⟨⟨hfaults, -⟩, -⟩ := step_of_phase h hrst hidle hstep
  obtain ⟨u, hexec⟩ := exec_state_next (decodeState_format s.st) s
  rw [step_of_exec h hrst hexec] at hstep
  cases hstep
  obtain ⟨hreads, -⟩ := buttonIsIgnoredElsewhere s u hexec
  refine ⟨?_, fun htick hzero => ?_⟩
  · simp only [hlast, advance_effects, hreads hf hfaults, hidle, false_or, exists_eq_left]
  · obtain ⟨hst, hlt⟩ := hlast.1 ⟨htick, hzero⟩
    obtain ⟨v, hrow, -, hnext, hsample⟩ := exec_stopOff_last hdata hst hlt
    rw [hst, decodeState_stopOff, hrow] at hexec
    cases hexec
    exact ⟨hnext, hsample⟩

end Sys2Proof.Proofs
end

section
/-! PROOF. The state rules in full (42_protocol_encoder.md R144 to R154), from the exits as equations, the faults of the
exit actions and STAY; the micro-operations STAY, ENTER_BIT and TERMINATE (R142, R143, R156) and the dispatch (R140). -/

namespace Sys2Proof.Proofs

open Sys2Proof.Machine Sys2Proof.Safety Sys2Proof.Laws

/-! ### The faults of the exit actions within a cycle -/

section
variable {s : State} (ha : 0xFFFF < s.acc.toNat + countAfter s)
include ha

theorem toSpace_in_cycle_overflow (next : State → BitVec 4) :
    toSpace next (cntNext s) (beginCycle s) = .error (.accOverflow s.st s.acc (cntNext s)) := by
  rw [toSpace, accumulate_in_cycle_error ha]
  rfl

theorem toMark_in_cycle_overflow (next : BitVec 4) :
    toMark next (cntNext s) (beginCycle s) = .error (.accOverflow s.st s.acc (cntNext s)) := by
  rw [toMark, accumulate_in_cycle_error ha]
  rfl

theorem accumulate_bind_startBit_in_cycle_overflow :
    (accumulate (cntNext s) (beginCycle s)).bind startBit = .error (.accOverflow s.st s.acc (cntNext s)) := by
  rw [accumulate_in_cycle_error ha]
  rfl

theorem afterBit_in_cycle_overflow :
    afterBit (cntNext s) (beginCycle s) = .error (.accOverflow s.st s.acc (cntNext s)) := by
  rw [afterBit_eq, toMark_in_cycle_overflow ha, accumulate_bind_startBit_in_cycle_overflow ha, ite_self]

end

section
variable {s : State} (ha : s.acc.toNat + countAfter s ≤ 0xFFFF)
include ha

theorem accumulate_bind_startBit_in_cycle_of_neg (hcur : s.cur.toInt < 0) :
    (accumulate (cntNext s) (beginCycle s)).bind startBit = .error (.cursorRange s.cur) := by
  rw [accumulate_in_cycle ha]
  exact startBit_of_neg (s := accumulated s) hcur

theorem afterBit_in_cycle_of_lt (hcur : s.cur.toInt < -1) :
    afterBit (cntNext s) (beginCycle s) = .error (.cursorRange s.cur) := by
  have hne : (beginCycle s).cur ≠ cursorDone := fun h => by
    have hdone : s.cur.toInt = -1 := (cur_eq_cursorDone _).1 h
    omega
  rw [afterBit_eq, if_neg hne, accumulate_bind_startBit_in_cycle_of_neg ha (by omega)]

end

theorem closeExit_in_cycle_underflow {s : State} (h : 4095 < s.acc.toNat + countAfter s) :
    closeExit (cntNext s) (beginCycle s) = .error (.budgetUnderflow (s.acc.toNat + countAfter s)) := by
  rw [closeExit, closeWith_in_cycle_error h]
  rfl

/-! ### The faults of the exits that enter a bit: CursorRange discards the exit -/

section
variable {s : State} (ha : s.acc.toNat + countAfter s ≤ 0xFFFF) (hf : s.faults = [])
include ha hf

theorem exec_ldrOff_cursorRange (h : 170 < countAfter s) (hcur : s.cur.toInt < 0) :
    exec .ldrOff s = .next (stuckOn (.cursorRange s.cur) s) :=
  phaseCycle_error (onExit := fun c t => (accumulate c t).bind startBit) (threshold_ldrOff _) h (by omega) hf
    (accumulate_bind_startBit_in_cycle_of_neg ha hcur)

theorem exec_bit0Off_cursorRange (h : 20 < countAfter s) (hcur : s.cur.toInt < -1) :
    exec .bit0Off s = .next (stuckOn (.cursorRange s.cur) s) :=
  phaseCycle_error (threshold_bit0Off _) h (by omega) hf (afterBit_in_cycle_of_lt ha hcur)

theorem exec_bit1Off_cursorRange (h : 63 < countAfter s) (hcur : s.cur.toInt < -1) :
    exec .bit1Off s = .next (stuckOn (.cursorRange s.cur) s) :=
  phaseCycle_error (threshold_bit1Off _) h (by omega) hf (afterBit_in_cycle_of_lt ha hcur)

end

/-! ### The state rules -/

/-- Outputs that agree with the state are driven to the levels they have. -/
theorem driveOutputs_of_portsAgree {s : State} (h : portsAgree s) : driveOutputs s = s := by
  obtain ⟨hduty, hen⟩ := h
  have hd : dutyFor (gate s) = s.duty := hduty.symm
  rw [driveOutputs, hd]
  exact congrArg (fun en => { s with tmrEn := en }) hen.symm

/-- Settles O5: the released cycle is STAY with its record, the pressed one starts the leader. -/
theorem idleRule : Obligations.IdleRule := by
  intro s hc
  refine ⟨fun hb ⟨hports, _⟩ => ?_, fun hb => ⟨_, exec_idle_press hc hb, rfl⟩⟩
  rw [exec_idle_released hc hb]
  exact congrArg _ (driveOutputs_of_portsAgree hports)

/-- Settles O6: STAY up to the threshold; past it the exit into LeaderOff, or AccOverflow. -/
theorem leaderOnRule : Obligations.LeaderOnRule := fun _ =>
  ⟨fun h ⟨hports, _⟩ => phaseCycle_stay (threshold_ldrOn _) h hports,
    fun h ha => exec_ldrOn_exit ha h,
    fun h hc ha hf _ => phaseCycle_error (threshold_ldrOn _) h hc hf (toSpace_in_cycle_overflow ha _)⟩

/-- Settles O7: STAY up to the threshold; past it the first bit's entry, AccOverflow, or CursorRange. -/
theorem leaderOffRule : Obligations.LeaderOffRule := fun _ =>
  ⟨fun h ⟨hports, _⟩ => phaseCycle_stay (threshold_ldrOff _) h hports,
    fun h ha hcur => exec_ldrOff_exit ha h hcur,
    fun h hc ha hf _ => phaseCycle_error (onExit := fun c t => (accumulate c t).bind startBit) (threshold_ldrOff _) h hc
      hf (accumulate_bind_startBit_in_cycle_overflow ha),
    fun h ha hcur hf => ⟨_, exec_ldrOff_cursorRange ha hf h hcur, rfl, rfl, rfl, rfl, rfl⟩⟩

/-- Settles O8: STAY up to the threshold; past it the exit into the space of `curbit`, or AccOverflow. -/
theorem bitOnRule : Obligations.BitOnRule := fun _ =>
  ⟨fun h ⟨hports, _⟩ => phaseCycle_stay (threshold_bitOn _) h hports,
    fun h ha => exec_bitOn_exit ha h,
    fun h hc ha hf _ => phaseCycle_error (threshold_bitOn _) h hc hf (toSpace_in_cycle_overflow ha _)⟩

/-- Settles O9: STAY up to the threshold; past it StopOn, the next bit's entry, AccOverflow, or CursorRange. -/
theorem bitZeroOffRule : Obligations.BitZeroOffRule := fun _ =>
  ⟨fun h ⟨hports, _⟩ => phaseCycle_stay (threshold_bit0Off _) h hports,
    fun h ha hcur => exec_bit0Off_exit_stop ha h hcur,
    fun h ha hcur => exec_bit0Off_exit_bit ha h hcur,
    fun h hc ha hf _ => phaseCycle_error (threshold_bit0Off _) h hc hf (afterBit_in_cycle_overflow ha),
    fun h ha hcur hf => ⟨_, exec_bit0Off_cursorRange ha hf h hcur, rfl, rfl, rfl, rfl, rfl⟩⟩

/-- Settles O10: as for a zero's space, with a one's threshold. -/
theorem bitOneOffRule : Obligations.BitOneOffRule := fun _ =>
  ⟨fun h ⟨hports, _⟩ => phaseCycle_stay (threshold_bit1Off _) h hports,
    fun h ha hcur => exec_bit1Off_exit_stop ha h hcur,
    fun h ha hcur => exec_bit1Off_exit_bit ha h hcur,
    fun h hc ha hf _ => phaseCycle_error (threshold_bit1Off _) h hc hf (afterBit_in_cycle_overflow ha),
    fun h ha hcur hf => ⟨_, exec_bit1Off_cursorRange ha hf h hcur, rfl, rfl, rfl, rfl, rfl⟩⟩

/-- Settles O11: STAY up to the threshold; past it CLOSE-FRAME into StopOff, or BudgetUnderflow. -/
theorem stopOnRule : Obligations.StopOnRule := fun _ =>
  ⟨fun h ⟨hports, _⟩ => phaseCycle_stay (threshold_stopOn _) h hports,
    fun h ha => exec_stopOn_exit h ha,
    fun h hc ha hf _ => phaseCycle_error (onExit := closeExit) (threshold_stopOn _) h hc hf
      (closeExit_in_cycle_underflow ha)⟩

/-- Settles O12: STAY up to the budget; past it the button's sample chooses between a repeat frame and TERMINATE. -/
theorem stopOffRule : Obligations.StopOffRule := fun _ =>
  ⟨fun h ⟨hports, _⟩ => phaseCycle_stay (threshold_stopOff _) h hports, exec_stopOff_exit_pressed,
    exec_stopOff_exit_released⟩

/-- Settles O13: STAY up to the threshold; past it the exit into RepeatOff, or AccOverflow. -/
theorem repeatOnRule : Obligations.RepeatOnRule := fun _ =>
  ⟨fun h ⟨hports, _⟩ => phaseCycle_stay (threshold_rptOn _) h hports,
    fun h ha => exec_rptOn_exit ha h,
    fun h hc ha hf _ => phaseCycle_error (threshold_rptOn _) h hc hf (toSpace_in_cycle_overflow ha _)⟩

/-- Settles O14: STAY up to the threshold; past it the exit into StopOn, or AccOverflow. -/
theorem repeatOffRule : Obligations.RepeatOffRule := fun _ =>
  ⟨fun h ⟨hports, _⟩ => phaseCycle_stay (threshold_rptOff _) h hports,
    fun h ha => exec_rptOff_exit ha h,
    fun h hc ha hf _ => phaseCycle_error (threshold_rptOff _) h hc hf (toMark_in_cycle_overflow ha _)⟩

/-- A cycle of a reserved code's rule that takes a first fault. -/
theorem blockCycle_illegal {s : State} (hc : countAfter s ≤ 0xFFFF) (hf : s.faults = []) :
    blockCycle illegal s = .next (stuckOn (.illegalState s.st) s) := by
  rw [blockCycle_error hc (rule := illegal) (f := .illegalState s.st) rfl]
  exact congrArg _ (raiseFault_of_nil _ hf)

/-- Settles O15: the three rows are one rule. -/
theorem reservedCodesRecordIllegalState : Obligations.ReservedCodesRecordIllegalState := fun _ _ hc hf _ =>
  ⟨blockCycle_illegal hc hf, blockCycle_illegal hc hf, blockCycle_illegal hc hf⟩

/-! ### The micro-operations -/

/-- Settles O29: STAY writes the low 16 bits of `cnt'`. -/
theorem stayRule : Obligations.StayRule := by
  intro s hc
  rw [exec, execStay, withTick_of_le _ hc, orRaise_ok, stayWith, setWidth_cntNext]

/-- Settles O30: ENTER-BIT with a code bit at `cur`, and without one. -/
theorem enterBitRule : Obligations.EnterBitRule := by
  intro s
  refine ⟨fun hcur => ?_, fun hcur hf => ?_⟩
  · rw [exec, execEnterBit, startBit_of_nonneg hcur]
    rfl
  · rw [exec, execEnterBit, startBit_of_neg hcur, orRaise_error, raiseFault_of_nil _ hf]

/-- Settles O31: TERMINATE is its list of writes (R156). -/
theorem terminateRule : Obligations.TerminateRule := fun _ => rfl

/-! ### The dispatch -/

/-- Settles O35: a STATE word decodes to the row `fetchState` dispatches to, and such a row always answers a state. -/
theorem stepRunsTheStateRule : Obligations.StepRunsTheStateRule := by
  intro s i hrst hf hr hdecode
  obtain rfl : decodeState s.st = i := Except.ok.inj hdecode
  obtain ⟨t, hexec⟩ := exec_state_next (decodeState_format s.st) s
  exact ⟨t, hexec, by rw [step_cycle hrst hf hr, hexec, thenAdvance]⟩

end Sys2Proof.Proofs
end

section
/-! PROOF. The effects of a cycle and their order (43_external_interfaces.md R187). -/

namespace Sys2Proof.Proofs

open Sys2Proof.Machine Sys2Proof.Safety Sys2Proof.Laws

/-- A STAY cycle emits nothing (42_protocol_encoder.md R142). -/
@[simp] theorem stayed_effects (s : State) : (stayed s).effects = [] := rfl

/-- Settles O53: each kind of cycle has its one list. All but three kinds emit one record at most, and those three are
the exit of Idle and the two of StopOff. -/
theorem effectsComeInTheirOrder : Obligations.EffectsComeInTheirOrder := by
  intro i s t hi h
  cases exec_state_cases hi h with
  | fault | idleStay | stay | space | mark | bit | close => simp
  | idleExit => simp
  | again | done => simp

end Sys2Proof.Proofs
end

section
/-! PROOF. What a fault leaves and that none is ever recorded (60_exceptions.md R201, R202, R216): the block takes a
step in every cycle, a stuck block holds its state, the strobe `tmr_clr` is read by no rule, and every step keeps the
invariant. -/

namespace Sys2Proof.Proofs

open Sys2Proof.Machine Sys2Proof.Safety Sys2Proof.Laws

/-! ### Every cycle answers a next state -/

/-- A step answers a next state, or it is the replay of a record and is refused. -/
theorem step_next_or_replay_refused (s : State) :
    (∃ t, step s = .next t) ∨ s.replay ≠ [] ∧ ∃ r, step s = .refused r := by
  by_cases hrst : s.rst = true
  · exact .inl ⟨_, step_reset hrst⟩
  rw [Bool.not_eq_true] at hrst
  by_cases hf : s.faults = []
  · cases hr : s.replay with
    | nil =>
      obtain ⟨t, hexec⟩ := exec_state_next (decodeState_format s.st) s
      exact .inl ⟨_, by rw [step_cycle hrst hf hr, hexec]; rfl⟩
    | cons rec rest =>
      cases hd : decodeEffect rec with
      | ok i =>
        rw [step_replay hrst hf hr hd]
        rcases exec_next_or_reserved i { s with replay := rest } with hnext | ⟨low, rfl⟩
        · exact .inl hnext
        · exact .inr ⟨List.cons_ne_nil _ _, _, rfl⟩
      | error e => exact .inr ⟨List.cons_ne_nil _ _, _, step_replay_error hrst hf hr hd⟩
  · exact .inl ⟨_, step_faulted hrst hf⟩

/-- Settles O56: a step is a next state or a refusal, and a refusal has a record to replay. -/
theorem stepsAreNeverStopped : Obligations.StepsAreNeverStopped := by
  intro s
  rcases step_next_or_replay_refused s with ⟨t, hstep⟩ | ⟨hr, r, hstep⟩
  · exact ⟨by rw [hstep]; nofun, fun _ => ⟨t, hstep⟩⟩
  · exact ⟨by rw [hstep]; nofun, fun h => absurd h hr⟩

/-! ### The stuck block -/

/-- Settles O34: a stuck block's cycle is `holdBlock`, which empties the effect list alone, and the environment moves
no register and no output. -/
theorem faultedBlockIsStuck : Obligations.FaultedBlockIsStuck := fun _ hrst hf =>
  ⟨_, step_faulted hrst hf, rfl, rfl, rfl, rfl, rfl, rfl, rfl, rfl, rfl, rfl, rfl, id, rfl⟩

/-! ### The strobe -/

/-- A cycle that raised no fault leaves the strobe up if it is an Idle exit, and down otherwise. -/
theorem tmrClr_iff_idle_exit {i : Instr} {s t : State} (h : StateCycle s i t) (hf : t.faults = []) :
    t.tmrClr = true ↔ i = .idle ∧ s.btnN = false := by
  cases h with
  | fault _ f => exact absurd hf (recordFault_ne_nil _ f)
  | idleStay hb => exact iff_of_false Bool.false_ne_true (by simp [hb])
  | idleExit hb => exact iff_of_true rfl ⟨rfl, hb⟩
  | stay _ hi | mark _ _ hi | bit _ _ hi =>
    refine iff_of_false Bool.false_ne_true ?_
    rintro ⟨rfl, -⟩
    exact absurd hi (by decide)
  | space _ c _ hi =>
    refine iff_of_false Bool.false_ne_true ?_
    rintro ⟨rfl, -⟩
    simp [toSpaceRows] at hi
  | close | again | done => exact iff_of_false Bool.false_ne_true (by simp)

/-- A cycle that records a fault holds the strobe (60_exceptions.md R202; log 16). -/
theorem tmrClr_of_new_fault {i : Instr} {s t : State} (h : StateCycle s i t) (hs : s.faults = [])
    (hf : t.faults ≠ []) : t.tmrClr = s.tmrClr := by
  cases h with
  | fault => rfl
  | _ => exact absurd hs hf

/-- A STATE row is a cycle of one rule, the same in every state. -/
theorem exec_state_rule {i : Instr} (hi : i.format = .state) : ∃ rule, ∀ s, exec i s = blockCycle rule s := by
  by_cases hidle : i = .idle
  · subst hidle
    exact ⟨_, fun s => by rw [exec, execIdle]⟩
  by_cases hstop : i = .stopOff
  · subst hstop
    exact ⟨_, fun s => by rw [exec, execStopOff, phaseCycle]⟩
  obtain ⟨rule, -, hrow⟩ := exec_state_ignoresButton hi hidle hstop
  exact ⟨rule, hrow⟩

/-- A cycle lowers the strobe before its rule runs, so what it was reaches the next state in a faulted cycle alone, and
there no other field. -/
theorem blockCycle_withStrobe {rule : BitVec 17 → State → Except Fault State} {s t : State}
    (h : blockCycle rule s = .next t) (b : Bool) :
    ∃ u, blockCycle rule { s with tmrClr := b } = .next u ∧ { u with tmrClr := t.tmrClr } = t := by
  by_cases hc : countAfter s ≤ 0xFFFF
  · cases hr : rule (cntNext s) (beginCycle s) with
    | ok u =>
      rw [blockCycle_ok hc hr] at h
      cases h
      exact ⟨_, blockCycle_ok (s := { s with tmrClr := b }) hc hr, rfl⟩
    | error f =>
      rw [blockCycle_error hc hr] at h
      cases h
      exact ⟨_, blockCycle_error (s := { s with tmrClr := b }) hc hr, rfl⟩
  · rw [blockCycle_overflow rule (by omega)] at h
    cases h
    exact ⟨_, blockCycle_overflow rule (s := { s with tmrClr := b }) (Nat.lt_of_not_le hc), rfl⟩

/-- Settles O18: the strobe after each kind of cycle, the same cycle with the strobe at another level, and the stuck
block's hold. -/
theorem strobeIsUpAfterAnIdleExitAlone : Obligations.StrobeIsUpAfterAnIdleExitAlone := by
  refine ⟨fun i s t hi hs h => ?_, fun s t hrst hf h => ?_⟩
  · have hcycle := exec_state_cases hi h
    obtain ⟨rule, hrow⟩ := exec_state_rule hi
    simp only [hrow] at h ⊢
    exact ⟨tmrClr_iff_idle_exit hcycle, tmrClr_of_new_fault hcycle hs, blockCycle_withStrobe h⟩
  · rw [step_faulted hrst hf] at h
    cases h
    rfl

/-! ### The invariant -/

/-- A reset cycle leads into the invariant's Idle, whatever the registers held. -/
theorem frameInv_resetBlock {s : State} (hrst : s.rst = true) (hr : s.replay = []) :
    FrameInv (advance s (resetBlock s)) := by
  have htickNo : tickNoAfter s (resetBlock s) = 0 := if_pos hrst
  have hdata : phaseData (resetBlock s) := phaseData_of_phaseView (.idle rfl rfl rfl rfl)
  have hports : portsAgree (resetBlock s) := ⟨by simp [dutyOff, codeIdle], rfl⟩
  exact ⟨rfl, hr, hports, rfl, hdata, by rw [advance_tickNo, htickNo]; rfl⟩

/-- A cycle of Idle with the button released counts nothing, since the Tick Source is off. -/
theorem frameInv_idleStay {s : State} (h : FrameInv s) (hrst : s.rst = false) (hst : s.st = codeIdle) :
    FrameInv (advance s (driveOutputs { stayed s with effects := [.btnRead false] })) := by
  obtain ⟨-, -, -, hidle⟩ := countNeverExceedsThreeThousandSixHundredFortySeven s h
  obtain ⟨hcnt, hcount⟩ := hidle hst
  obtain ⟨hf, hr, hports, harmed, hdata, hclock⟩ := h
  have hkept : stayed s = { s with effects := [], tmrClr := false } := by
    rw [stayed, hcount]
    exact congrArg (fun n => { s with cnt := n, effects := [], tmrClr := false }) hcnt.symm
  have hoff : s.armed = false := by rw [harmed, hst]; rfl
  rw [driveOutputs_of_portsAgree (s := { stayed s with effects := [.btnRead false] }) hports, hkept]
  exact frameInv_advance hrst ⟨hf, hr, hports, harmed, hdata⟩ rfl (by rw [hoff]; exact hclock)

/-- A step of Idle keeps the invariant, whether the button is pressed or not. -/
theorem frameInv_of_idle_step {s t : State} (h : FrameInv s) (hrst : s.rst = false) (hst : s.st = codeIdle)
    (hstep : step s = .next t) : FrameInv t := by
  obtain ⟨-, -, -, hidle⟩ := countNeverExceedsThreeThousandSixHundredFortySeven s h
  obtain ⟨-, hcount⟩ := hidle hst
  cases hb : s.btnN with
  | false =>
    have hexec := exec_idle_press (s := s) (by omega) hb
    rw [step_of_exec h hrst (by rw [hst]; exact hexec)] at hstep
    cases hstep
    exact frameInv_leaderEntry h hexec
  | true =>
    have hexec := exec_idle_released (s := s) (by omega) hb
    rw [step_of_exec h hrst (by rw [hst]; exact hexec)] at hstep
    cases hstep
    exact frameInv_idleStay h hrst hst

/-- Settles O40: the block takes a step, and a reset cycle, a cycle of Idle and a cycle of a phase each keep the
invariant. -/
theorem stepKeepsFrameInv : Obligations.StepKeepsFrameInv := by
  intro s h
  obtain ⟨-, hr, -, -, -, -⟩ := id h
  obtain ⟨-, hnext⟩ := stepsAreNeverStopped s
  obtain ⟨t, hstep⟩ := hnext hr
  refine ⟨t, hstep, ?_⟩
  by_cases hrst : s.rst = true
  · rw [step_reset hrst] at hstep
    cases hstep
    exact frameInv_resetBlock hrst hr
  rw [Bool.not_eq_true] at hrst
  by_cases hst : s.st = codeIdle
  · exact frameInv_of_idle_step h hrst hst hstep
  · obtain ⟨hinv, -⟩ := step_of_phase h hrst hst hstep
    exact hinv

end Sys2Proof.Proofs
end

section
/-! PROOF. The reset cycle (70_reset_and_hazards.md R230) and the end of a run (R244, R245): what leads from a phase into
Idle, and the rest of a quiescent state. -/

namespace Sys2Proof.Proofs

open Sys2Proof.Machine Sys2Proof.Safety Sys2Proof.Laws

/-! ### The reset cycle -/

/-- Settles O33: a reset cycle is `resetBlock`, and the environment moves no register and no output. -/
theorem resetInputReloadsTheBlock : Obligations.ResetInputReloadsTheBlock := fun _ hrst =>
  ⟨_, step_reset hrst, rfl, rfl, rfl, rfl, rfl, rfl, rfl, rfl, rfl, rfl, rfl, rfl, rfl, rfl⟩

/-! ### The end of a transmission -/

theorem toSpaceRows_ne_idle : ∀ row ∈ toSpaceRows, row.2 ≠ codeIdle := by
  decide

/-- The one kind of cycle that leads from a phase into Idle is StopOff's exit with the button released (R151, R156). -/
theorem stateCycle_into_idle {i : Instr} {s t : State} (h : StateCycle s i t) (hs : s.st ≠ codeIdle)
    (ht : t.st = codeIdle) : i = .stopOff ∧ s.budget.toNat < countAfter s ∧ s.btnN = true ∧ t = idleEntry s := by
  cases h with
  | done hc hb => exact ⟨rfl, hc, hb, rfl⟩
  | fault | idleStay | stay => exact absurd ht hs
  | idleExit | mark | bit | close | again =>
    exact absurd ht (by simp [codeIdle, codeLdrOn, codeStopOn, codeBitOn, codeStopOff, codeRptOn])
  | space _ c _ hrow => exact absurd ht (toSpaceRows_ne_idle _ hrow)

/-- An EFFECT record stands for an EFFECT row, a reserved one too (30_encoding.md R77). -/
theorem decodeEffect_format {rec : BitVec 11} {i : Instr} (h : decodeEffect rec = .ok i) : i.format = .effect := by
  simp only [decodeEffect] at h
  split_ifs at h <;> cases h <;> rfl

/-- A step from a phase into Idle with `rst` low and no fault recorded is StopOff's exit with the button released: a
replayed record leaves `st` as it was. -/
theorem step_into_idle {s t : State} (hrst : s.rst = false) (hf : s.faults = []) (hs : s.st ≠ codeIdle)
    (ht : t.st = codeIdle) (h : step s = .next t) :
    s.st = codeStopOff ∧ s.budget.toNat < countAfter s ∧ s.btnN = true ∧ t = advance s (idleEntry s) := by
  rcases step_cases h with ⟨hr, -⟩ | ⟨-, hf', -⟩ | ⟨-, -, -, u, hu, rfl⟩ | ⟨-, -, rec, rest, i, -, hd, hx⟩
  · exact absurd hrst (by simp [hr])
  · exact absurd hf hf'
  · obtain ⟨hrow, hc, hb, rfl⟩ := stateCycle_into_idle (exec_state_cases (decodeState_format s.st) hu) hs ht
    obtain ⟨-, -, hcode⟩ := eq_code_of_decodeState s.st
    exact ⟨hcode hrow, hc, hb, rfl⟩
  · have hst : t.st = s.st := exec_st (s := { s with replay := rest }) hx (.inl (decodeEffect_format hd))
    exact absurd (hst.symm.trans ht) hs

/-! ### The rest of a quiescent state -/

/-- A cycle of Idle with the button released writes no register: it emits its reading and lowers the strobe
(42_protocol_encoder.md R144). -/
theorem step_idle_released {s : State} (h : FrameInv s) (hrst : s.rst = false) (hst : s.st = codeIdle)
    (hb : s.btnN = true) :
    step s = .next (advance s { s with effects := [.btnRead false], tmrClr := false }) := by
  obtain ⟨-, -, -, hidle⟩ := countNeverExceedsThreeThousandSixHundredFortySeven s h
  obtain ⟨hcnt, hcount⟩ := hidle hst
  obtain ⟨-, -, hports, -, -, -⟩ := id h
  have hkept : { stayed s with effects := [.btnRead false] } =
      { s with effects := [.btnRead false], tmrClr := false } := by
    simp [stayed, hcount, ← hcnt]
  have hexec := exec_idle_released (s := s) (by omega) hb
  rw [driveOutputs_of_portsAgree (s := { stayed s with effects := [.btnRead false] }) hports] at hexec
  have hrow : decodeState s.st = .idle := by rw [hst]; rfl
  exact step_of_exec h hrst (by rw [hrow]; exact hexec.trans (congrArg _ hkept))

/-- Settles O60: a transmission's end is a step from a phase into Idle, so TERMINATE's; and a quiescent state's step
writes no register and leaves the outputs off. -/
theorem transmissionsEndByTerminateAlone : Obligations.TransmissionsEndByTerminateAlone := by
  refine ⟨fun s t hstep hend => ?_, fun s h ⟨hst, hb, hduty, hen⟩ hrst => ?_⟩
  · obtain ⟨hrst, hf, hs, ht, htf⟩ := transmissionEnded_eq_true.1 hend
    obtain ⟨hcode, hc, hb, rfl⟩ := step_into_idle hrst hf hs ht hstep
    exact ⟨hrst, hf, htf, hcode, hc, hb, rfl, rfl, rfl⟩
  · have hgoesOn : ∀ t, transmissionEnded s t = false := fun t => by simp [transmissionEnded, hst]
    exact ⟨_, step_idle_released h hrst hst hb, hst, rfl, hduty, hen, rfl, hgoesOn _, fun hb' => ⟨hst, hb', hduty, hen⟩⟩

end Sys2Proof.Proofs
end

section
/-! PROOF. The decoder and the encoder are each other's inverse (30_encoding.md R71 to R77): every well-formed operation
with a word is read back from it, and every word that decodes is its operation's. One part per format. -/

namespace Sys2Proof.Proofs

/-! ### The STATE code -/

/-- The codes 1100 to 1111 miss every row before RESERVED_11XX (R73). -/
theorem decodeState_reserved11xx : ∀ low : BitVec 2, decodeState (0b11#2 ++ low) = .reserved11xx low := by
  decide

/-- Every code is its row's own (R71, R73). -/
theorem encode_decodeState : ∀ code : BitVec 4,
    (decodeState code).wf = true ∧ encode (decodeState code) = some (.state code) := by
  decide

/-! ### The INPUT vector -/

theorem decodeInput_tick : ∀ b : Bool, decodeInput (1#1 ++ BitVec.ofBool b) = .ok (.tick b) := by
  decide

/-- A vector with `tick` = 1 is that bit and the button's level (R74). -/
theorem inputVector_of_tick : ∀ vec : BitVec 2, vec.getLsbD 1 = true → 1#1 ++ BitVec.ofBool (vec.getLsbD 0) = vec := by
  decide

theorem encode_of_decodeInput {vec : BitVec 2} {i : Instr} (h : decodeInput vec = .ok i) :
    i.wf = true ∧ encode i = some (.input vec) := by
  unfold decodeInput at h
  split at h
  case isTrue htick =>
    cases h
    exact ⟨rfl, congrArg (some ∘ Word.input) (inputVector_of_tick vec htick)⟩
  case isFalse => cases h

/-! ### The EFFECT record -/

@[simp] theorem effectOp_packEffect (op : BitVec 3) (arg : BitVec 8) : effectOp (packEffect op arg) = op :=
  BitVec.extractLsb'_append_eq_left

@[simp] theorem effectArg_packEffect (op : BitVec 3) (arg : BitVec 8) : effectArg (packEffect op arg) = arg :=
  BitVec.extractLsb'_append_eq_right

/-- A record is its two fields. -/
theorem packEffect_of_fields {rec : BitVec 11} {op : BitVec 3} {arg : BitVec 8} (hop : effectOp rec = op)
    (harg : effectArg rec = arg) : packEffect op arg = rec := by
  subst hop harg
  exact BitVec.extractLsb'_append_extractLsb' (w := 3) (len := 8) (x := rec)

/-- An op code that is none of the six begins with 11 (R77). -/
theorem reservedOp_highBits : ∀ op : BitVec 3, op ∉ [0b000#3, 0b001#3, 0b010#3, 0b011#3, 0b100#3, 0b101#3] →
    op.extractLsb' 1 2 = 0b11#2 := by
  decide

/-- Bits [10:9] of a record are the first two of its op code. -/
theorem extractLsb'_effectOp (rec : BitVec 11) : (effectOp rec).extractLsb' 1 2 = rec.extractLsb' 9 2 := by
  apply BitVec.eq_of_toNat_eq
  simp only [effectOp, BitVec.extractLsb'_toNat, Nat.shiftRight_eq_div_pow]
  omega

theorem encode_reserved11x {rec : BitVec 11} (h : (effectOp rec).extractLsb' 1 2 = 0b11#2) :
    encode (.reserved11x (rec.extractLsb' 0 9)) = some (.effect rec) := by
  rw [encode, ← h, extractLsb'_effectOp, BitVec.extractLsb'_append_extractLsb' (w := 2) (len := 9)]

/-- A record whose fields are those of an operation's word is that word. -/
theorem encode_of_fields {rec : BitVec 11} {op : BitVec 3} {arg : BitVec 8} {i : Instr}
    (hi : encode i = some (.effect (packEffect op arg))) (hop : effectOp rec = op) (harg : effectArg rec = arg) :
    encode i = some (.effect rec) := by
  rw [hi, packEffect_of_fields hop harg]

theorem encode_of_decodeEffect {rec : BitVec 11} {i : Instr} (h : decodeEffect rec = .ok i) :
    i.wf = true ∧ encode i = some (.effect rec) := by
  simp only [decodeEffect] at h
  split_ifs at h with h0 harg h1 harg h2 harg h3 harg h4 h5 hfalse htrue <;> cases h
  · exact ⟨rfl, encode_of_fields rfl h0 harg⟩
  · exact ⟨rfl, encode_of_fields rfl h1 harg⟩
  · exact ⟨beq_iff_eq.2 harg, encode_of_fields rfl h2 rfl⟩
  · exact ⟨rfl, encode_of_fields rfl h3 harg⟩
  · exact ⟨rfl, encode_of_fields rfl h4 rfl⟩
  · exact ⟨rfl, encode_of_fields rfl h5 hfalse⟩
  · exact ⟨rfl, encode_of_fields rfl h5 htrue⟩
  · exact ⟨rfl, encode_reserved11x (reservedOp_highBits _ (by simp [h0, h1, h2, h3, h4, h5]))⟩

theorem decodeEffect_pwmDuty (n : BitVec 8) : decodeEffect (packEffect 0b100#3 n) = .ok (.pwmDuty n) := by
  simp [decodeEffect]

/-! ### The obligations -/

/-- Settles O3: a word is read by its format's decoder, and each of the three has its lemma. -/
theorem decodedWordIsItsEncoding : Obligations.DecodedWordIsItsEncoding := by
  intro w i h
  cases w with
  | state code =>
    obtain rfl : decodeState code = i := Except.ok.inj h
    exact encode_decodeState code
  | input vec => exact encode_of_decodeInput h
  | effect rec => exact encode_of_decodeEffect h

/-- Settles O2: row by row. The words without an operand are looked up; of those with one, the flags have two values,
TMR_ARM's is fixed by `wf`, and PWM_DUTY's and the reserved codes' free bits are taken back out of the word. -/
theorem encodeDecodeRoundTrip : Obligations.EncodeDecodeRoundTrip := by
  intro i hwf hformat
  cases i with
  | reserved11xx low => exact ⟨_, rfl, rfl, congrArg Except.ok (decodeState_reserved11xx low)⟩
  | tick btnN => exact ⟨_, rfl, rfl, decodeInput_tick btnN⟩
  | tmrArm p =>
    obtain rfl : p = Config.pwmPeriodTicks := beq_iff_eq.1 hwf
    exact ⟨_, rfl, rfl, rfl⟩
  | pwmDuty n => exact ⟨_, rfl, rfl, decodeEffect_pwmDuty n⟩
  | btnRead asserted => exact ⟨_, rfl, rfl, by cases asserted <;> rfl⟩
  | reserved11x low =>
    obtain ⟨hdecode, -⟩ := reservedEffectOpCodesAreRefused
    exact ⟨_, rfl, rfl, hdecode low⟩
  | setGateOn | setGateOff | accumulateAndReset | closeFrame | resetOnly | stay | enterBit | terminate =>
    exact absurd rfl hformat
  | _ => exact ⟨_, rfl, rfl, rfl⟩

/-- Settles O1: the decoder evaluated on ten words. -/
theorem decodeGoldenWords : Obligations.DecodeGoldenWords :=
  ⟨rfl, rfl, rfl, rfl, rfl, rfl, rfl, rfl, rfl, rfl⟩

end Sys2Proof.Proofs
end

section
/-! PROOF. The interface operations as records to replay (30_encoding.md R77; 43_external_interfaces.md R181 to R186),
the CursorRange fault of an exit (log 2), and the invariant at reset (10_state.md R35). -/

namespace Sys2Proof.Proofs

open Sys2Proof.Machine Sys2Proof.Safety Sys2Proof.Laws

/-! ### The operations alone and the replay of a record -/

/-- Settles O22: each operation is its emission, and arming and disarming write the flag too (log 13). -/
theorem timerOperationsRule : Obligations.TimerOperationsRule := fun _ _ => ⟨rfl, rfl, rfl⟩

/-- Settles O23: PWM_DUTY is its emission (R185). -/
theorem pwmDutyRule : Obligations.PwmDutyRule := fun _ _ => rfl

/-- Settles O24: BTN_READ is its emission (R186), and NONE leaves the state (R77). -/
theorem buttonReadHasNoSideEffect : Obligations.ButtonReadHasNoSideEffect := fun _ _ => ⟨rfl, rfl⟩

/-- Settles O36: the two ways the first record of the queue can decode. -/
theorem stepReplaysEffectRecords : Obligations.StepReplaysEffectRecords := fun _ _ _ hrst hf hr =>
  ⟨fun _ hdecode => step_replay hrst hf hr hdecode, fun _ hdecode => step_replay_error hrst hf hr hdecode⟩

/-! ### CursorRange -/

/-- Settles O17: the three exits that enter a bit, each past its threshold with `cur` out of range. -/
theorem cursorRangeDiscardsTheExit : Obligations.CursorRangeDiscardsTheExit := fun _ hf =>
  ⟨fun hc ha hcur => exec_ldrOff_cursorRange ha hf hc hcur, fun hc ha hcur => exec_bit0Off_cursorRange ha hf hc hcur,
    fun hc ha hcur => exec_bit1Off_cursorRange ha hf hc hcur⟩

/-! ### Reset -/

/-- Settles O39: the reset state is Idle's case of the invariant, with no tick counted. -/
theorem frameInvAtReset : Obligations.FrameInvAtReset :=
  ⟨rfl, rfl, ⟨rfl, rfl⟩, rfl, phaseData_of_phaseView (.idle rfl rfl rfl rfl), rfl⟩

end Sys2Proof.Proofs
end
